-- ==== Sys2Proof/Word.lean ====
section
/-! DEFINITION. The bit-vector types of the ZB-460's registers, and reading and writing one place of a table of fixed size. -/

namespace Sys2Proof

/-- One byte of the serial link (R155). -/
abbrev Byte := BitVec 8

/-- A time stamp: a 32-bit count of microseconds, wrapping (R26). -/
abbrev Stamp := BitVec 32

/-- A raw 12-bit converter count, 0 to 4095 (R48). -/
abbrev Count := BitVec 12

/-- A table of fixed size with the value at one place replaced. -/
def Table.put {α : Type} {n : Nat} (v : Vector α n) (i : Fin n) (x : α) : Vector α n :=
  v.set i.val x i.isLt

end Sys2Proof
end

