-- ==== Sys2Proof/Syntax.lean ====
section
/-! DEFINITION. The commands: one constructor for each row of spec/opcode_table.json, with the row's operands.

A host request is given by the tag and the payload bytes its frame carries (R171, R173), so that every payload the
link can carry, the malformed ones included, is an operand of the row. An event row carries what the event is about:
the unit, the pin, the byte, the converted value. -/

namespace Sys2Proof

/-- The two hold groups (R98). MOTION is PC0, PC1 and PC3. BLADE is PC2. -/
inductive HoldGroup where
  | motion
  | blade
  deriving DecidableEq, Repr

/-- The commands of the block, one for each row of spec/opcode_table.json. -/
inductive Instr where
  /-- PING (R166): a good request frame of kind 0x01 arrives. -/
  | ping (tag : Byte) (payload : List Byte)
  /-- STATUS (R167): kind 0x02. -/
  | status (tag : Byte) (payload : List Byte)
  /-- RESTART (R168): kind 0x03. -/
  | restart (tag : Byte) (payload : List Byte)
  /-- SET-CHANNEL (R84): kind 0x10. -/
  | setChannel (tag : Byte) (payload : List Byte)
  /-- DRIVE (R96): kind 0x11. -/
  | drive (tag : Byte) (payload : List Byte)
  /-- STOP-ALL (R100): kind 0x12. -/
  | stopAll (tag : Byte) (payload : List Byte)
  /-- SET-PROFILE (R109): kind 0x13. -/
  | setProfile (tag : Byte) (payload : List Byte)
  /-- SELECT-PROFILE (R110): kind 0x14. -/
  | selectProfile (tag : Byte) (payload : List Byte)
  /-- SNAPSHOT (R103): kind 0x15. -/
  | snapshot (tag : Byte) (payload : List Byte)
  /-- DEFINE-ACQ (R8): kind 0x20. -/
  | defineAcq (tag : Byte) (payload : List Byte)
  /-- ARM-ACQ (R15): kind 0x21. -/
  | armAcq (tag : Byte) (payload : List Byte)
  /-- CANCEL-ACQ (R16): kind 0x22. -/
  | cancelAcq (tag : Byte) (payload : List Byte)
  /-- RELEASE-ACQ (R18): kind 0x23. -/
  | releaseAcq (tag : Byte) (payload : List Byte)
  /-- SET-ANCHOR (R40): kind 0x24. -/
  | setAnchor (tag : Byte) (payload : List Byte)
  /-- SET-RING (R72): kind 0x25. -/
  | setRing (tag : Byte) (payload : List Byte)
  /-- READ-RING (R73): kind 0x26. -/
  | readRing (tag : Byte) (payload : List Byte)
  /-- SET-GUARD (R127): kind 0x30. -/
  | setGuard (tag : Byte) (payload : List Byte)
  /-- CLEAR-TRIP (R137): kind 0x31. -/
  | clearTrip (tag : Byte) (payload : List Byte)
  /-- SET-COUNTER (R151): kind 0x40. -/
  | setCounter (tag : Byte) (payload : List Byte)
  /-- READ-COUNTERS (R152): kind 0x41. -/
  | readCounters (tag : Byte) (payload : List Byte)
  /-- UNKNOWN-KIND (R159): a good request frame whose kind names no request arrives. -/
  | unknownKind (tag kind : Byte) (payload : List Byte)
  /-- FRAME_RECEIVED (R156): the checksum byte completes a frame. The operand is every byte after the start byte. -/
  | frameReceived (bytes : List Byte)
  /-- INTER_BYTE_GAP_TIMEOUT (R156): 2 ms without a new start bit. -/
  | interByteGapTimeout
  /-- FRAMING_ERROR (R155): a low stop bit, RXD high again within 20 µs. -/
  | framingError
  /-- LINK_BREAK (R165): RXD low for 20 µs. -/
  | linkBreak
  /-- FRAME_TRANSMITTED (R163): the frame in transmission ends. -/
  | frameTransmitted
  /-- RESTART_RESET (R168): the RESTART reply's transmission ends. -/
  | restartReset
  /-- POWER_ON (R168). -/
  | powerOn
  /-- NRST_ASSERT (R168): NRST goes low. -/
  | nrstAssert
  /-- NRST_RELEASE (R168): NRST goes high. -/
  | nrstRelease
  /-- RAMP_TICK (R106): the 1 ms timebase tick. -/
  | rampTick
  /-- HOLD_EXPIRY (R99): the counted tick at which a group's hold timer reaches 0. -/
  | holdExpiry (group : HoldGroup)
  /-- PERIOD_BOUNDARY (R87) of one pulse channel. -/
  | periodBoundary (ch : Fin 4)
  /-- PERIOD_MIDPOINT (R27) of one pulse channel. -/
  | periodMidpoint (ch : Fin 4)
  /-- CENTRE_ANCHOR_FIRE (R27): a midpoint at which the centre count reaches the divider. -/
  | centreAnchorFire (ch : Fin 4)
  /-- CADENCE_ANCHOR_FIRE (R29): the time stamp reaches the due time of KA0 to KA3. -/
  | cadenceAnchorFire (k : Fin 4)
  /-- CONVERSION_COMPLETE (R54): the conversion in progress ends with this count. -/
  | conversionComplete (value : Count)
  /-- WAIT_LIMIT_EXPIRY (R61) of one slot. -/
  | waitLimitExpiry (slot : Fin 32)
  /-- GUARD_PIN_ASSERT (R129): GINn changes to its source's asserted level. -/
  | guardPinAssert (pin : Fin 8)
  /-- GUARD_PIN_DEASSERT (R130): GINn changes to its source's deasserted level. -/
  | guardPinDeassert (pin : Fin 8)
  /-- QUALIFICATION_EXPIRY (R129) of one pin source. -/
  | qualificationExpiry (pin : Fin 8)
  /-- QUADRATURE_STEP (R144, R145): the decoder of CU0 or CU1 sees these levels on lines A and B. -/
  | quadratureStep (unit : Fin 2) (a b : Bool)
  /-- TACH_EDGE (R146): a rising edge on TACH2. -/
  | tachEdge
  /-- TALLY_WRAP (R147): a counted edge, up or down, that brings the tally to its limit. -/
  | tallyWrap (unit : Fin 3) (up : Bool)
  /-- GRACE_EXPIRY (R148) of one counting unit. -/
  | graceExpiry (unit : Fin 3)
  /-- STALL (R150): the quiet interval of one counting unit expires. -/
  | stall (unit : Fin 3)
  /-- BYTE_RECEIVED (R156): a byte is taken whole at the middle of its stop bit. -/
  | byteReceived (b : Byte)
  /-- RXD_RETURNS_HIGH (R164, R179): RXD is seen high after a break or for the first time after a reset. -/
  | rxdReturnsHigh
  deriving DecidableEq, Repr

end Sys2Proof
end

