-- ==== Sys2Proof/Decode.lean ====
section
/-! DEFINITION. The decoder over the rows of spec/opcode_table.json that give bits. The part has no instruction words:
every row of the table has an empty list of fields, so no word spells a command. The frames of the serial link are
read by the receiver (Machine/Link.lean) and the payloads by Machine/Operands.lean. -/

namespace Sys2Proof

/-- No row of the table gives bits, so a word spells no command. -/
def decodeTableWord (_nbits _w : Nat) : Option Instr := none

end Sys2Proof
end

