-- ==== Sys2Proof/Config.lean ====
section
/-! DEFINITION. What is fixed for the part, and the values the spec leaves open (opaque: nothing can be proved of them). -/

namespace Sys2Proof.Config

/-- The family code PING reports (R174). -/
def familyCode : Byte := 0x2E

/-- The revision PING reports (R174). -/
def revision : Byte := 1

/-- Timebase ticks of 50 ns in one microsecond (R26, R86). -/
def ticksPerMicro : Nat := 20

/-- Timebase ticks of one element conversion, 5 µs (R48). -/
def conversionTicks : Nat := 100

/-- Timebase ticks between two ramp ticks, 1000 µs (R106). -/
def rampPeriodTicks : Nat := 20000

/-- Timebase ticks of one bit on the line, at 1 Mbit/s (R155). -/
def bitTicks : Nat := 20

/-- Timebase ticks of one byte on the line: start bit, eight data bits, stop bit, 10 µs (R155). -/
def byteTicks : Nat := 10 * bitTicks

/-- Timebase ticks of low level on RXD that are a link break, 20 µs (R164). -/
def breakTicks : Nat := 400

/-- FREE VALUE (log 3): the count that the converter gives for the voltage on AINn at the k-th draw. The spec gives
the range, 0 to 4095, and leaves the conversion to the design (R48, section "Scope of this manual"). -/
opaque sampledCount : Fin 12 → Nat → Count

/-- FREE VALUE (log 4): which of several things that fall at one moment is taken first. "Either may be taken first"
(R41, R59, R104, R123, R139, R153, R169). -/
opaque orderAtOneMoment : Nat → Nat

end Sys2Proof.Config
end

