-- ==== Sys2Proof/Machine/State.lean ====
section
/-! DEFINITION. The state of the ZB-460 as plain data, block by block, and its values after reset. Each type names the
rule of spec/ that gives its fields. -/

namespace Sys2Proof.Machine

/-- The slot number of an acquisition slot, AQ0 to AQ31 (R1). -/
abbrev SlotId := Fin 32
/-- The number of an anchor, 0 to 11: CA0-CA3, KA0-KA3, TA0-TA2, GA (R25). -/
abbrev AnchorId := Fin 12
/-- The number of a result ring, RG0 to RG7 (R67). -/
abbrev RingId := Fin 8
/-- The number of a pulse channel, PC0 to PC3 (R83). -/
abbrev ChanId := Fin 4
/-- The number of a guard source, 0 to 11: G0-G7, S0-S2, W (R125). -/
abbrev SourceId := Fin 12
/-- The number of a counting unit, CU0 to CU2 (R143). -/
abbrev UnitId := Fin 3

/-! ## Acquisition table (chapter 1) -/

/-- The five slot states (R14). -/
inductive SlotState where
  | free
  | idle
  | waiting
  | ready
  | converting
  deriving DecidableEq, Repr

/-- A feedback destination: a pulse channel and an element index (R6). -/
structure Feedback where
  channel : ChanId
  element : Nat
  deriving DecidableEq, Repr

/-- A window: an element index, inclusive bounds and the trip option (R7). -/
structure Window where
  element : Nat
  low : Nat
  high : Nat
  trip : Bool
  deriving DecidableEq, Repr

/-- The definition half of a slot (R1). -/
structure Definition where
  level : Fin 8
  anchor : Option AnchorId
  elements : List (Fin 12)
  repeating : Bool
  rounds : Nat
  waitLimit : Nat
  atomic : Bool
  ring : Option RingId
  feedback : Option Feedback
  window : Option Window
  deriving DecidableEq, Repr

/-- The definition fields of a FREE slot (R1). -/
def Definition.absent : Definition :=
  { level := 0, anchor := none, elements := [], repeating := false, rounds := 0, waitLimit := 0, atomic := false,
    ring := none, feedback := none, window := none }

/-- One slot: its definition and its run state (R1 and the table of section 1.3). -/
structure Slot where
  defn : Definition
  state : SlotState
  cursor : Nat
  partials : List Count
  sequence : BitVec 16
  remaining : Nat
  roundTime : Stamp
  late : Bool
  cancel : Bool
  readySince : Stamp
  deriving DecidableEq, Repr

/-- A FREE slot (R1, section 1.3, R24). -/
def Slot.free : Slot :=
  { defn := Definition.absent, state := .free, cursor := 0, partials := [], sequence := 0, remaining := 0,
    roundTime := 0, late := false, cancel := false, readySince := 0 }

/-! ## Anchors (chapter 2) and converter (chapter 3) -/

/-- The release mode of an anchor (R25). -/
inductive ReleaseMode where
  | one
  | all
  deriving DecidableEq, Repr

/-- The insert position of an anchor (R25). -/
inductive InsertPos where
  | tail
  | head
  deriving DecidableEq, Repr

/-- What every anchor holds (R25): wait list head first, release mode, insert position, bank. -/
structure Anchor where
  waitList : List SlotId
  mode : ReleaseMode
  insert : InsertPos
  bank : Nat
  deriving DecidableEq, Repr

/-- An anchor after reset (R42). -/
def Anchor.initial : Anchor := { waitList := [], mode := .all, insert := .tail, bank := 0 }

/-- What a cadence anchor holds in addition: its period in µs and its due time (R29). -/
structure Cadence where
  period : Nat
  due : Stamp
  deriving DecidableEq, Repr

/-- The converter while CONVERTING (R47): the slot, the analog channel, the start time stamp, and the timebase ticks
of the 5 µs that have passed (R48). -/
structure Conversion where
  slot : SlotId
  channel : Fin 12
  start : Stamp
  elapsed : Nat
  deriving DecidableEq, Repr

/-! ## Result rings (chapter 4) -/

/-- How a round was finished (R68). -/
inductive RoundStatus where
  | complete
  | missed
  deriving DecidableEq, Repr

/-- A ring entry (R68). The element count is the length of `values`. -/
structure RingEntry where
  slot : SlotId
  status : RoundStatus
  number : BitVec 16
  roundTime : Stamp
  values : List Count
  deriving DecidableEq, Repr

/-- The policy of a ring (R67). -/
inductive RingPolicy where
  | overwrite
  | keep
  deriving DecidableEq, Repr

/-- A result ring (R67): the entries oldest first (their number is the entry count), policy, watermark, overrun flag,
and the write and read positions among the 32 places. -/
structure Ring where
  entries : List RingEntry
  policy : RingPolicy
  watermark : Nat
  overrun : Bool
  writePos : Nat
  readPos : Nat
  deriving DecidableEq, Repr

/-- A ring after reset (R67, R82). -/
def Ring.initial : Ring :=
  { entries := [], policy := .overwrite, watermark := 16, overrun := false, writePos := 0, readPos := 0 }

/-! ## Pulse channels (chapters 5 and 6) -/

/-- The five channel states (R89). -/
inductive ChanState where
  | off
  | idle
  | run
  | dwell
  | halt
  deriving DecidableEq, Repr

/-- The direction of a channel (R88). -/
inductive Direction where
  | fwd
  | rev
  deriving DecidableEq, Repr

/-- The rounding modes (R121). -/
inductive Rounding where
  | rnu
  | rne
  | rdn
  | rod
  deriving DecidableEq, Repr

/-- A pulse channel: base configuration (R83), run state (R89) and pulse timer (R86). The enable field of R83 is not
stored twice: a channel is enabled when its state is not OFF. `phase` is the pulse timer, in ticks since the last
boundary. `pulsed` says whether the period in progress had active on-ticks above 0 at any point (R93). -/
structure Channel where
  period : Nat
  pendingPeriod : Option Nat
  minPulse : Nat
  maxBase : Nat
  slewBase : Nat
  limitBase : Nat
  gain : Nat
  relax : Nat
  rounding : Rounding
  divider : Nat
  state : ChanState
  target : Int
  ramped : Int
  fold : Nat
  mag : Nat
  nextOn : Nat
  activeOn : Nat
  direction : Direction
  brakeHeld : Bool
  centreCount : Nat
  lastFeedback : Count
  limCurrent : Bool
  limCap : Bool
  fbMissed : Bool
  phase : Nat
  pulsed : Bool
  deriving DecidableEq, Repr

/-- A channel after reset (R83, R105). The pulse timer at 0, and no pulse in the period, are the model's choice: R86 says
only that the timer stops in OFF (log 31). -/
def Channel.initial : Channel :=
  { period := 1000, pendingPeriod := none, minPulse := 0, maxBase := 1000, slewBase := 20, limitBase := 0, gain := 16,
    relax := 10, rounding := .rnu, divider := 1, state := .off, target := 0, ramped := 0, fold := 0, mag := 0,
    nextOn := 0, activeOn := 0, direction := .fwd, brakeHeld := false, centreCount := 0, lastFeedback := 0,
    limCurrent := false, limCap := false, fbMissed := false, phase := 0, pulsed := false }

/-- A hold group's hold time and hold timer, in ms (R83, R98). -/
structure Hold where
  time : Nat
  left : Nat
  deriving DecidableEq, Repr

/-- The three overrides of one channel in one mode profile; 0 stands for no override (R108). -/
structure Overrides where
  maximum : Nat
  slew : Nat
  limit : Nat
  deriving DecidableEq, Repr

/-! ## Guard unit (chapter 7) -/

/-- The actions of a guard source (R134). -/
inductive Action where
  | report
  | cap
  | coast
  | brake
  deriving DecidableEq, Repr

/-- The states of a guard source (R125). -/
inductive SourceState where
  | inactive
  | qualifying
  | tripped
  | latched
  deriving DecidableEq, Repr

/-- A guard source's configuration and run state (R125). `mask` bit n names PCn. `heldLong` is the source's own
measure of the time it stands TRIPPED, past 65,535 ms (R130). -/
structure Source where
  enabled : Bool
  activeHigh : Bool
  qualification : Nat
  action : Action
  capValue : Nat
  mask : BitVec 4
  epochOption : Bool
  anchorOption : Bool
  state : SourceState
  qualStart : Stamp
  trippedSince : Stamp
  heldLong : Bool
  deriving DecidableEq, Repr

/-- A guard source after reset (R125, R142). -/
def Source.initial : Source :=
  { enabled := false, activeHigh := false, qualification := 2, action := .report, capValue := 1000, mask := 0,
    epochOption := false, anchorOption := false, state := .inactive, qualStart := 0, trippedSince := 0,
    heldLong := false }

/-! ## Counting units (chapter 8) -/

/-- A counting unit (R143). -/
structure Counter where
  position : BitVec 32
  tally : Nat
  tallyLimit : Nat
  quiet : Nat
  grace : Nat
  armed : Bool
  lockout : Bool
  graceStart : Stamp
  quietStart : Stamp
  deriving DecidableEq, Repr

/-- A counting unit after reset (R143, R154). -/
def Counter.initial : Counter :=
  { position := 0, tally := 0, tallyLimit := 0, quiet := 0, grace := 200, armed := false, lockout := false,
    graceStart := 0, quietStart := 0 }

/-- The levels of lines A and B of a wheel encoder (R144); true is high. -/
structure LinePair where
  a : Bool
  b : Bool
  deriving DecidableEq, Repr

/-- What CU0 and CU1 hold in addition (R143): the last line pair and the count-error flag. -/
structure Decoder where
  last : LinePair
  countError : Bool
  deriving DecidableEq, Repr

/-! ## Link controller (chapter 9) -/

/-- The receiver's states (R156). In FRAME it holds the bytes taken after the start byte. -/
inductive RxMode where
  | hunt
  | frame (taken : List Byte)
  deriving DecidableEq, Repr

/-- A good request frame (R156, R158). -/
structure Request where
  tag : Byte
  kind : Byte
  payload : List Byte
  deriving DecidableEq, Repr

/-- The receiving side of the link controller: receiver, whether RXD has been seen high since the last reset or break
(R164, R179), link-error flag (R157), request queue (R158), and whether a RESTART awaits the end of its reply's
transmission (R158, R168). -/
structure LinkIn where
  mode : RxMode
  seenHigh : Bool
  linkError : Bool
  requests : List Request
  restartWait : Bool
  deriving DecidableEq, Repr

/-- A reply (R159): the tag of the request, the reply kind, the payload with its head. -/
structure Reply where
  tag : Byte
  kind : Byte
  payload : List Byte
  deriving DecidableEq, Repr

/-- The thirteen event kinds (R172). -/
inductive EventKind where
  | ready
  | guardTrip
  | guardReleased
  | holdExpired
  | stall
  | tally
  | limit
  | acqMissed
  | acqDone
  | window
  | ringWatermark
  | linkBreak
  | countError
  deriving DecidableEq, Repr

/-- An event record (R161). -/
structure EventRecord where
  kind : EventKind
  source : Nat
  count : Nat
  overflow : Bool
  epoch : BitVec 8
  stamp : Stamp
  detail : BitVec 16
  deriving DecidableEq, Repr

/-- The two claimants of the transmitter (R163). -/
inductive TxClass where
  | reply
  | event
  deriving DecidableEq, Repr

/-- A frame in transmission. -/
inductive TxFrame where
  | reply (r : Reply)
  | event (e : EventRecord)
  deriving DecidableEq, Repr

/-- The sending side of the link controller: reply queue (R160), event queue (R161), the frame in transmission with
the timebase ticks it has been on the line, and the last-served class (R163). -/
structure Outbox where
  replies : List Reply
  events : List EventRecord
  sending : Option TxFrame
  sentTicks : Nat
  lastServed : TxClass
  deriving DecidableEq, Repr

/-- The causes of a reset, in the detail of READY (R168, R170). -/
inductive ReadyCause where
  | power
  | pin
  | restart
  deriving DecidableEq, Repr

/-- The code of a READY cause (R170). -/
def ReadyCause.code : ReadyCause → BitVec 16
  | .power => 1
  | .pin => 2
  | .restart => 3

/-- The READY record a reset leaves (R168). -/
def EventRecord.readyRecord (cause : ReadyCause) : EventRecord :=
  { kind := .ready, source := 0, count := 1, overflow := false, epoch := 0, stamp := 0, detail := cause.code }

/-! ## Timebase and pins -/

/-- The timebase: the time stamp (R26), the 50 ns ticks since it last advanced, and the 50 ns ticks since the last
ramp tick (R106, R180). -/
structure Clock where
  stamp : Stamp
  subTicks : Nat
  rampTicks : Nat
  deriving DecidableEq, Repr

/-- The levels of the input pins that the part reads as levels: NRST, RXD, GIN0-GIN7 and the encoder lines (section
"Signal summary"); true is high. -/
structure Pins where
  nrst : Bool
  rxd : Bool
  gin : Vector Bool 8
  enc : Vector LinePair 2
  deriving DecidableEq, Repr

/-! ## The whole part -/

/-- The state of the ZB-460, with the queue of commands that wait and the counter of free values drawn (log 3, 4). -/
structure State where
  clock : Clock
  pins : Pins
  slots : Vector Slot 32
  anchors : Vector Anchor 12
  cadences : Vector Cadence 4
  ready : Vector (List SlotId) 8
  conv : Option Conversion
  rings : Vector Ring 8
  chans : Vector Channel 4
  holds : Vector Hold 2
  profiles : Vector (Vector Overrides 4) 4
  activeProfile : Fin 4
  sources : Vector Source 12
  epoch : BitVec 8
  counters : Vector Counter 3
  decoders : Vector Decoder 2
  link : LinkIn
  out : Outbox
  pending : List Instr
  drawn : Nat
  deriving DecidableEq, Repr

/-- The part right after power-on (R24, R42, R66, R82, R105, R124, R142, R154, R168), with no command waiting. The pin
levels, and the pulse timers of the channels in OFF, are the model's choice (logs 5 and 31). -/
def State.reset : State :=
  { clock := { stamp := 0, subTicks := 0, rampTicks := 0 }
    pins := { nrst := true, rxd := true, gin := Vector.replicate 8 true,
              enc := Vector.replicate 2 { a := false, b := false } }
    slots := Vector.replicate 32 Slot.free
    anchors := Vector.replicate 12 Anchor.initial
    cadences := Vector.replicate 4 { period := 0, due := 0 }
    ready := Vector.replicate 8 []
    conv := none
    rings := Vector.replicate 8 Ring.initial
    chans := Vector.replicate 4 Channel.initial
    holds := #v[{ time := 250, left := 0 }, { time := 500, left := 0 }]
    profiles := Vector.replicate 4 (Vector.replicate 4 { maximum := 0, slew := 0, limit := 0 })
    activeProfile := 0
    sources := Vector.replicate 12 Source.initial
    epoch := 0
    counters := Vector.replicate 3 Counter.initial
    decoders := Vector.replicate 2 { last := { a := false, b := false }, countError := false }
    link := { mode := .hunt, seenHigh := false, linkError := false, requests := [], restartWait := false }
    out := { replies := [], events := [EventRecord.readyRecord .power], sending := none, sentTicks := 0,
             lastServed := .event }
    pending := []
    drawn := 0 }

/-- Reasons the part stops with a fault. The spec names none: no behaviour of the part stops it, so no meaning raises
a fault and the type is empty (log 1). -/
inductive Fault where
  deriving DecidableEq, Repr

/-- Reasons a command is refused. No meaning refuses (log 1). -/
inductive Refusal where
  /-- Raised by an arm of exec whose row has no meaning yet. Safe: nothing is claimed of such a step. No arm raises it. -/
  | notModelled (mnemonic : String)
  deriving DecidableEq, Repr

/-- What a step answers. -/
abbrev Answered := Host.Outcome State Fault Refusal

end Sys2Proof.Machine
end

