-- ==== Sys2Proof/Machine/Ops.lean ====
section
/-! DEFINITION. The named operations that every block uses: reading and writing one place of a table, comparing time
stamps, posting an event, placing a reply, choosing the next frame to transmit, advancing the motion epoch. -/

namespace Sys2Proof.Machine

/-! ## One place of a table -/

def State.slot (s : State) (x : SlotId) : Slot := s.slots.get x
def State.anchor (s : State) (a : AnchorId) : Anchor := s.anchors.get a
def State.level (s : State) (l : Fin 8) : List SlotId := s.ready.get l
def State.ring (s : State) (r : RingId) : Ring := s.rings.get r
def State.chan (s : State) (c : ChanId) : Channel := s.chans.get c
def State.source (s : State) (n : SourceId) : Source := s.sources.get n
def State.counter (s : State) (u : UnitId) : Counter := s.counters.get u

def State.setSlot (s : State) (x : SlotId) (v : Slot) : State := { s with slots := Table.put s.slots x v }
def State.setAnchor (s : State) (a : AnchorId) (v : Anchor) : State := { s with anchors := Table.put s.anchors a v }
def State.setCadence (s : State) (k : Fin 4) (v : Cadence) : State := { s with cadences := Table.put s.cadences k v }
def State.setLevel (s : State) (l : Fin 8) (v : List SlotId) : State := { s with ready := Table.put s.ready l v }
def State.setRing (s : State) (r : RingId) (v : Ring) : State := { s with rings := Table.put s.rings r v }
def State.setChan (s : State) (c : ChanId) (v : Channel) : State := { s with chans := Table.put s.chans c v }
def State.setHold (s : State) (g : Fin 2) (v : Hold) : State := { s with holds := Table.put s.holds g v }
def State.setSource (s : State) (n : SourceId) (v : Source) : State := { s with sources := Table.put s.sources n v }
def State.setCounter (s : State) (u : UnitId) (v : Counter) : State := { s with counters := Table.put s.counters u v }
def State.setDecoder (s : State) (u : Fin 2) (v : Decoder) : State := { s with decoders := Table.put s.decoders u v }

/-- The four pulse channels, in order. -/
def allChans : List ChanId := [0, 1, 2, 3]
/-- The three counting units, in order. -/
def allUnits : List UnitId := [0, 1, 2]
/-- The eight priority levels, the most urgent first. -/
def allLevels : List (Fin 8) := [0, 1, 2, 3, 4, 5, 6, 7]
/-- The twelve guard sources, in order. -/
def allSources : List SourceId := [0, 1, 2, 3, 4, 5, 6, 7, 8, 9, 10, 11]

/-! ## Time (R26) -/

/-- The time stamp. -/
def State.now (s : State) : Stamp := s.clock.stamp

/-- The time stamp `now` has reached `due`: the difference, read as a signed 32-bit quantity, is 0 or below (R26). -/
def reached (due now : Stamp) : Bool := decide ((due - now).toInt ≤ 0)

/-- A time `us` microseconds after another, wrapping (R26). -/
def after (t : Stamp) (us : Nat) : Stamp := t + BitVec.ofNat 32 us

/-- `ms` milliseconds in microseconds. -/
def millis (ms : Nat) : Nat := ms * 1000

/-- A part held in reset by NRST does nothing (R168); otherwise the work is done. -/
def State.live (s : State) (work : State → State) : Answered := .next (if s.pins.nrst then work s else s)

/-! ## The transmitter and its two queues (R160-R163) -/

/-- The transmitter takes the oldest reply. -/
def Outbox.sendReply (o : Outbox) (r : Reply) (rest : List Reply) : Outbox :=
  { o with replies := rest, sending := some (.reply r), sentTicks := 0, lastServed := .reply }

/-- The transmitter takes the oldest event record. -/
def Outbox.sendEvent (o : Outbox) (e : EventRecord) (rest : List EventRecord) : Outbox :=
  { o with events := rest, sending := some (.event e), sentTicks := 0, lastServed := .event }

/-- A free transmitter chooses (R163): with both queues holding entries, the class other than the last-served one. -/
def Outbox.choose (o : Outbox) : Outbox :=
  match o.sending with
  | some _ => o
  | none =>
    match o.replies, o.events with
    | [], [] => o
    | r :: rs, [] => o.sendReply r rs
    | [], e :: es => o.sendEvent e es
    | r :: rs, e :: es =>
      match o.lastServed with
      | .event => o.sendReply r rs
      | .reply => o.sendEvent e es

/-- A waiting record that a new event of this kind and source folds into (R162). READY never coalesces. -/
def EventRecord.absorbs (w e : EventRecord) : Bool :=
  e.kind != .ready && w.kind == e.kind && w.source == e.source

/-- The count of a record rises by one, to at most 255 (R162). -/
def EventRecord.bump (w : EventRecord) : EventRecord := { w with count := min 255 (w.count + 1) }

/-- The overflow mark of the newest record is set (R162). -/
def markNewest : List EventRecord → List EventRecord
  | [] => []
  | [e] => [{ e with overflow := true }]
  | e :: f :: rest => e :: markNewest (f :: rest)

/-- An offered event is placed in the event queue (R162): coalesced, added, or lost with the overflow mark set. -/
def placeEvent (q : List EventRecord) (e : EventRecord) : List EventRecord :=
  if q.any (fun w => w.absorbs e) then q.map (fun w => if w.absorbs e then w.bump else w)
  else if q.length < 16 then q ++ [e]
  else markNewest q

/-- An event joins the event queue; an idle transmitter chooses at that moment (R162, R163). An entry that already
waits for an idle transmitter, as READY does after a reset (R168), is chosen before. -/
def Outbox.offer (o : Outbox) (e : EventRecord) : Outbox :=
  { o.choose with events := placeEvent o.choose.events e }.choose

/-- A reply joins the reply queue; an idle transmitter chooses at that moment (R160, R163). -/
def Outbox.pushReply (o : Outbox) (r : Reply) : Outbox :=
  { o.choose with replies := o.choose.replies ++ [r] }.choose

/-- An event is posted, with the motion epoch in force and the time stamp (R161). -/
def State.post (s : State) (kind : EventKind) (source : Nat) (detail : BitVec 16) : State :=
  { s with out := s.out.offer { kind := kind, source := source, count := 1, overflow := false, epoch := s.epoch,
                                stamp := s.now, detail := detail } }

/-- The reply queue has room and no RESTART awaits the end of its reply (R158). -/
def State.mayTake (s : State) : Bool := decide (s.out.replies.length < 4) && !s.link.restartWait

/-- The transmitter comes free at the end of a frame and chooses (R163). -/
def State.freeTransmitter (s : State) : State :=
  { s with out := { s.out with sending := none, sentTicks := 0 }.choose }

/-- A taken request's reply is placed (R160). -/
def State.pushReply (s : State) (r : Reply) : State := { s with out := s.out.pushReply r }

/-! ## The motion epoch (R140) -/

/-- The motion epoch advances by one, from 255 to 0 (R140). -/
def State.advanceEpoch (s : State) : State := { s with epoch := s.epoch + 1 }

end Sys2Proof.Machine
end

