-- ==== Sys2Proof/Machine/Flags.lean ====
section
/-! DEFINITION. The sticky flags: what sets the two limited flags, the flag bytes that reports carry, and what a
report clears (R102, R118, R167, R174, R178). -/

namespace Sys2Proof.Machine

/-- F reduced a non-zero level: F > 0 and A > 0 (R118 step 2). -/
def limitedByCurrent (level fold : Nat) : Bool := decide (0 < fold ∧ 0 < level)

/-- One of the two minimums of R118 step 3 made C smaller: the effective maximum below B, or the guard cap below what
the maximum left. -/
def limitedByCap (afterFold maximum : Nat) (cap : Option Nat) : Bool :=
  decide (maximum < afterFold) ||
    (match cap with
     | none => false
     | some g => decide (g < min afterFold maximum))

/-- A flag as a bit of a flag byte (R170). -/
def bitOf (flag : Bool) (n : Nat) : Nat := if flag then 2 ^ n else 0

/-- The channel flags byte of STATUS (R174). -/
def Channel.flagByte (c : Channel) : Byte :=
  BitVec.ofNat 8 (bitOf c.limCurrent 0 + bitOf c.limCap 1 + bitOf c.fbMissed 2)

/-- The counter flags byte of STATUS (R174). -/
def State.counterFlagByte (s : State) : Byte :=
  BitVec.ofNat 8 (bitOf (s.decoders.get 0).countError 0 + bitOf (s.decoders.get 1).countError 1)

/-- The link flags byte of STATUS (R174). -/
def State.linkFlagByte (s : State) : Byte := BitVec.ofNat 8 (bitOf s.link.linkError 0)

/-- The three sticky flags of a channel are cleared (R102). -/
def Channel.clearFlags (c : Channel) : Channel := { c with limCurrent := false, limCap := false, fbMissed := false }

/-- STATUS clears every sticky flag it reports (R167): those of each channel, the count-error flags, the link-error
flag. -/
def State.clearReportedFlags (s : State) : State :=
  { s with chans := s.chans.map Channel.clearFlags
           decoders := s.decoders.map (fun d => { d with countError := false })
           link := { s.link with linkError := false } }

/-- A frame is dropped: the link-error flag is set (R157). -/
def State.setLinkError (s : State) : State := { s with link := { s.link with linkError := true } }

/-- The feedback-missed flag of a channel is set, whatever its state (R78). -/
def State.setFeedbackMissed (s : State) (c : ChanId) : State := s.setChan c { s.chan c with fbMissed := true }

end Sys2Proof.Machine
end

