-- ==== Sys2Proof/Machine/Duty.lean ====
section
/-! DEFINITION. The duty computation (chapter 6): guard layer, effective values, rounding, magnitude recompute with its
hand-over to the counting unit, ramp step, fold-back update. -/

namespace Sys2Proof.Machine

/-! ## The guard layer (R134, R135) -/

/-- The guard layer of a channel (R135). The cap is the guard cap Gc. -/
inductive Layer where
  | empty
  | report
  | cap (gc : Nat)
  | coast
  | brake
  deriving DecidableEq, Repr

/-- A source plays a part in the layer of PCn: it is TRIPPED or LATCHED and its mask includes the channel (R135). -/
def Source.holds (src : Source) (c : ChanId) : Bool :=
  (src.state == .tripped || src.state == .latched) && src.mask.getLsbD c.val

/-- The smallest of some cap values (R112). -/
def smallest : List Nat → Option Nat
  | [] => none
  | x :: rest =>
    match smallest rest with
    | none => some x
    | some y => some (min x y)

/-- The layer that contributing sources compose: the strongest action, and for CAP the smallest cap value among the
contributing CAP sources (R135). -/
def composeLayer (parts : List Source) : Layer :=
  if parts.any (fun p => p.action == .brake) then .brake
  else if parts.any (fun p => p.action == .coast) then .coast
  else
    match smallest ((parts.filter (fun p => p.action == .cap)).map (fun p => p.capValue)) with
    | some gc => .cap gc
    | none => if parts.isEmpty then .empty else .report

/-- The guard layer of a channel, from the sources as they stand (R135). -/
def State.layer (s : State) (c : ChanId) : Layer :=
  composeLayer (s.sources.toList.filter (fun src => src.holds c))

/-- The layer holds COAST or BRAKE (R94). -/
def Layer.halts : Layer → Bool
  | .coast => true
  | .brake => true
  | _ => false

/-- The guard cap the layer applies, when it is CAP (R112). -/
def Layer.capOf : Layer → Option Nat
  | .cap gc => some gc
  | _ => none

/-! ## Effective values (R108) -/

/-- The active profile's overrides for a channel. -/
def State.overrides (s : State) (c : ChanId) : Overrides := (s.profiles.get s.activeProfile).get c

/-- An override if it is not 0, else the base value (R108). -/
def effective (override base : Nat) : Nat := if override = 0 then base else override

def State.effMax (s : State) (c : ChanId) : Nat := effective (s.overrides c).maximum (s.chan c).maxBase
def State.effSlew (s : State) (c : ChanId) : Nat := effective (s.overrides c).slew (s.chan c).slewBase
def State.effLimit (s : State) (c : ChanId) : Nat := effective (s.overrides c).limit (s.chan c).limitBase

/-! ## Rounding (R121) -/

/-- A product divided under a rounding mode (R121). `2 * r` is compared with `d`, which is r against d/2. -/
def roundDiv (mode : Rounding) (x d : Nat) : Nat :=
  match mode with
  | .rnu => if d ≤ 2 * (x % d) then x / d + 1 else x / d
  | .rne => if d < 2 * (x % d) ∨ (2 * (x % d) = d ∧ x / d % 2 = 1) then x / d + 1 else x / d
  | .rdn => x / d
  | .rod => if x % d = 0 then x / d else if x / d % 2 = 0 then x / d + 1 else x / d

/-! ## The magnitude (R117-R120) -/

/-- The level after fold-back, B (R118). -/
def levelAfterFold (c : Channel) : Nat := c.ramped.natAbs - c.fold

/-- The level after the ceilings, C (R118). -/
def levelAfterCeilings (c : Channel) (maximum : Nat) (cap : Option Nat) : Nat :=
  match cap with
  | none => min (levelAfterFold c) maximum
  | some gc => min (min (levelAfterFold c) maximum) gc

/-- The magnitude U: no pulse below the minimum pulse (R119). -/
def magnitudeOf (c : Channel) (maximum : Nat) (cap : Option Nat) : Nat :=
  if levelAfterCeilings c maximum cap < c.minPulse then 0 else levelAfterCeilings c maximum cap

/-- A channel with U, the next on-ticks and the limited flags formed afresh (R117-R120). -/
def Channel.recomputed (c : Channel) (maximum : Nat) (cap : Option Nat) : Channel :=
  { c with mag := magnitudeOf c maximum cap
           nextOn := roundDiv c.rounding (magnitudeOf c maximum cap * c.period) 1000
           limCurrent := c.limCurrent || limitedByCurrent c.ramped.natAbs c.fold
           limCap := c.limCap || limitedByCap (levelAfterFold c) maximum cap }

/-- The counting unit that watches a channel (chapter 8); PC3 has none. -/
def unitOf (c : ChanId) : Option UnitId := if h : c.val < 3 then some ⟨c.val, h⟩ else none

/-- The channel a counting unit watches. -/
def chanOf (u : UnitId) : ChanId := ⟨u.val, by omega⟩

/-- A unit arms: the quiet interval starts (R148, R149; log 22). -/
def Counter.arm (k : Counter) (now : Stamp) : Counter := { k with armed := true, quietStart := now }

/-- What a counting unit does with the magnitude a recompute hands it (R148, R150): at 0 it disarms and its lockout is
cleared; a rise from 0 starts the grace, or arms at once with grace 0. -/
def Counter.handed (k : Counter) (before u : Nat) (now : Stamp) : Counter :=
  if u = 0 then { k with armed := false, lockout := false }
  else if before = 0 ∧ k.armed = false ∧ k.lockout = false then
    if k.grace = 0 then { k with graceStart := now }.arm now else { k with graceStart := now }
  else k

/-- A recompute hands U onward to the channel's counting unit (R117). -/
def State.handMagnitude (s : State) (c : ChanId) (before u : Nat) : State :=
  match unitOf c with
  | none => s
  | some k => s.setCounter k ((s.counter k).handed before u s.now)

/-- The magnitude recompute of a channel (R117). -/
def State.recompute (s : State) (c : ChanId) : State :=
  let new := (s.chan c).recomputed (s.effMax c) (s.layer c).capOf
  (s.setChan c new).handMagnitude c (s.chan c).mag new.mag

/-- T and R are set to 0 and the magnitude is recomputed (R94, R99, R100, R165). -/
def State.zeroDrive (s : State) (c : ChanId) : State :=
  (s.setChan c { s.chan c with target := 0, ramped := 0 }).recompute c

/-- The effective values of a channel are formed afresh (R111): F goes to 0 where the effective limit is 0 (R116), and
the magnitude is recomputed. -/
def State.reformed (s : State) (c : ChanId) : State :=
  if s.effLimit c = 0 then (s.setChan c { s.chan c with fold := 0 }).recompute c else s.recompute c

/-! ## The channel and its guard layer (R94, R136) -/

/-- Entry into HALT (R94). -/
def State.enterHalt (s : State) (c : ChanId) : State :=
  (s.setChan c { s.chan c with state := .halt, target := 0, ramped := 0, activeOn := 0 }).recompute c

/-- A recomputed guard layer is handed to an enabled channel (R136), which enters, keeps or leaves HALT and recomputes its
magnitude once. Under COAST and BRAKE that recompute is made with R 0 (R112), so it sets no sticky flag (R94, R102;
log 12). An OFF channel only holds the layer. -/
def State.applyLayer (s : State) (c : ChanId) : State :=
  match (s.chan c).state, (s.layer c).halts with
  | .off, _ => s
  | .halt, true => s.recompute c
  | .halt, false => (s.setChan c { s.chan c with state := .idle }).recompute c
  | _, true => s.enterHalt c
  | _, false => s.recompute c

/-! ## The ramp (R107) -/

/-- The ramped level after one ramp step (R107). -/
def rampStep (target ramped : Int) (slew : Nat) : Int :=
  if (target - ramped).natAbs ≤ slew then target
  else if ramped < target then ramped + slew
  else ramped - slew

/-- R has a sign, and it differs from the direction (R92). -/
def signDiffers (ramped : Int) (dir : Direction) : Bool :=
  match dir with
  | .fwd => decide (ramped < 0)
  | .rev => decide (0 < ramped)

/-- The state decisions of a ramp tick (R91, R92, R106 step 3). -/
def Channel.tickState (c : Channel) (id : ChanId) : ChanState :=
  match c.state with
  | .run =>
    if c.target = 0 ∧ c.ramped = 0 then .idle
    else if id ≠ 2 ∧ signDiffers c.ramped c.direction then .dwell
    else .run
  | other => other

/-- The state decisions of a ramp tick are made on the values the step left (R106 step 3). -/
def State.decideState (s : State) (c : ChanId) : State :=
  s.setChan c { s.chan c with state := (s.chan c).tickState c }

/-- The ramp step at one channel and the recompute it causes if it changed R (R106 steps 1 and 2). -/
def State.rampChannel (s : State) (c : ChanId) : State :=
  let old := s.chan c
  let stepped := rampStep old.target old.ramped (s.effSlew c)
  if stepped = old.ramped then s else (s.setChan c { old with ramped := stepped }).recompute c

/-- A ramp tick's work at one channel (R106). -/
def State.tickChannel (s : State) (c : ChanId) : State :=
  match (s.chan c).state with
  | .run => (s.rampChannel c).decideState c
  | .dwell => (s.rampChannel c).decideState c
  | _ => s

/-! ## Fold-back (R114-R116) -/

/-- The new F for a delivered value (R114). -/
def foldUpdate (limit gain relax fold : Nat) (mode : Rounding) (value : Nat) : Nat :=
  if limit = 0 then 0
  else if limit < value then min 1000 (fold + roundDiv mode ((value - limit) * gain) 16)
  else fold - relax

/-- LIMIT is posted when F has risen from 0 (R115). -/
def State.postLimit (s : State) (c : ChanId) (before after : Nat) (value : Count) : State :=
  if before = 0 ∧ 0 < after then s.post .limit c.val (value.setWidth 16) else s

/-- A feedback delivery to a channel (R76, R114): ignored when OFF; otherwise the value is recorded, F updated, the
magnitude recomputed and LIMIT posted. -/
def State.deliver (s : State) (c : ChanId) (value : Count) : State :=
  let old := s.chan c
  if old.state = .off then s
  else
    let fold := foldUpdate (s.effLimit c) old.gain old.relax old.fold old.rounding value.toNat
    ((s.setChan c { old with lastFeedback := value, fold := fold }).recompute c).postLimit c old.fold fold value

end Sys2Proof.Machine
end

