-- ==== Sys2Proof/Machine/Operands.lean ====
section
/-! DEFINITION. The message formats (chapter 10): reading fields out of a payload, writing fields into a reply, the
codes of the enumerated values, and the decoding of each request payload with its value checks. -/

namespace Sys2Proof.Machine

/-! ## Fields of a payload (R170): least significant byte first -/

/-- The byte at an offset. -/
def byteAt (p : List Byte) (i : Nat) : Byte := p.getD i 0
def u8 (p : List Byte) (i : Nat) : Nat := (byteAt p i).toNat
def u16 (p : List Byte) (i : Nat) : Nat := u8 p i + 256 * u8 p (i + 1)
def u32 (p : List Byte) (i : Nat) : Nat := u16 p i + 65536 * u16 p (i + 2)
/-- A signed 16-bit field, two's complement (R170). -/
def s16 (p : List Byte) (i : Nat) : Int := (BitVec.ofNat 16 (u16 p i)).toInt

/-- One byte of a reply. -/
def out8 (n : Nat) : List Byte := [BitVec.ofNat 8 n]
def out16 (n : Nat) : List Byte := [BitVec.ofNat 8 n, BitVec.ofNat 8 (n / 256)]
def out32 (n : Nat) : List Byte := out16 n ++ out16 (n / 65536)
/-- A signed 16-bit field of a reply. -/
def outS16 (i : Int) : List Byte := out16 (BitVec.ofInt 16 i).toNat
def outStamp (t : Stamp) : List Byte := out32 t.toNat
/-- A flag as a whole byte of a reply, 1 for set. -/
def outFlag (b : Bool) : List Byte := out8 (bitOf b 0)

/-! ## Codes (R170) -/

def SlotState.code : SlotState → Nat
  | .free => 0
  | .idle => 1
  | .waiting => 2
  | .ready => 3
  | .converting => 4

def ChanState.code : ChanState → Nat
  | .off => 0
  | .idle => 1
  | .run => 2
  | .dwell => 3
  | .halt => 4

def SourceState.code : SourceState → Nat
  | .inactive => 0
  | .qualifying => 1
  | .tripped => 2
  | .latched => 3

def Action.ofCode : Nat → Option Action
  | 0 => some .report
  | 1 => some .cap
  | 2 => some .coast
  | 3 => some .brake
  | _ => none

def Rounding.code : Rounding → Nat
  | .rnu => 0
  | .rne => 1
  | .rdn => 2
  | .rod => 3

def Rounding.ofCode : Nat → Option Rounding
  | 0 => some .rnu
  | 1 => some .rne
  | 2 => some .rdn
  | 3 => some .rod
  | _ => none

def ReleaseMode.code : ReleaseMode → Nat
  | .one => 0
  | .all => 1

def ReleaseMode.ofCode : Nat → Option ReleaseMode
  | 0 => some .one
  | 1 => some .all
  | _ => none

def InsertPos.code : InsertPos → Nat
  | .tail => 0
  | .head => 1

def InsertPos.ofCode : Nat → Option InsertPos
  | 0 => some .tail
  | 1 => some .head
  | _ => none

def RingPolicy.code : RingPolicy → Nat
  | .overwrite => 0
  | .keep => 1

def RingPolicy.ofCode : Nat → Option RingPolicy
  | 0 => some .overwrite
  | 1 => some .keep
  | _ => none

/-- enable: off 0, on 1. -/
def enableOfCode : Nat → Option Bool
  | 0 => some false
  | 1 => some true
  | _ => none

/-- The code of a hold group, the place of its hold timer and its bit of the state (R170). -/
def groupIndex : HoldGroup → Fin 2
  | .motion => 0
  | .blade => 1

/-- A unit number below a bound. -/
def unitNumber (n bound : Nat) : Option (Fin bound) := if h : n < bound then some ⟨n, h⟩ else none

/-- A value inside an inclusive range. -/
def inRange (low high n : Nat) : Option Nat := if low ≤ n ∧ n ≤ high then some n else none

/-! ## The selected fields of a request

A field that is not selected is not read and not checked (R173). The outer option is the check; the inner one says
whether the field is written. -/

/-- A selected field's checked value, or nothing to write when the bit is clear. -/
def whenSelected {α : Type} (selection bit : Nat) (checked : Option α) : Option (Option α) :=
  if selection.testBit bit then checked.map some else some none

/-! ## SET-CHANNEL (R84, R174) -/

/-- The fields a SET-CHANNEL writes. -/
structure ChannelWrite where
  enable : Option Bool
  period : Option Nat
  minPulse : Option Nat
  maxBase : Option Nat
  slewBase : Option Nat
  limitBase : Option Nat
  gain : Option Nat
  relax : Option Nat
  rounding : Option Rounding
  divider : Option Nat
  holdTime : Option Nat
  deriving DecidableEq, Repr

/-- The value check of SET-CHANNEL (R84 check 2, ranges of R83, layout of R174). -/
def ChannelWrite.ofPayload (p : List Byte) : Option ChannelWrite :=
  let sel := u16 p 1
  if 2048 ≤ sel then none
  else do
    let enable ← whenSelected sel 0 (enableOfCode (u8 p 3))
    let period ← whenSelected sel 1 (inRange 500 4000 (u16 p 4))
    let minPulse ← whenSelected sel 2 (inRange 0 200 (u16 p 6))
    let maxBase ← whenSelected sel 3 (inRange 1 1000 (u16 p 8))
    let slewBase ← whenSelected sel 4 (inRange 1 1000 (u16 p 10))
    let limitBase ← whenSelected sel 5 (inRange 0 4095 (u16 p 12))
    let gain ← whenSelected sel 6 (some (u8 p 14))
    let relax ← whenSelected sel 7 (inRange 0 1000 (u16 p 15))
    let rounding ← whenSelected sel 8 (Rounding.ofCode (u8 p 17))
    let divider ← whenSelected sel 9 (inRange 1 256 (u16 p 18))
    let holdTime ← whenSelected sel 10 (inRange 20 2000 (u16 p 20))
    pure { enable, period, minPulse, maxBase, slewBase, limitBase, gain, relax, rounding, divider, holdTime }

/-! ## DRIVE (R95, R174) -/

/-- What a DRIVE carries. -/
structure DriveRequest where
  mask : BitVec 4
  epoch : BitVec 8
  targets : Vector Int 4
  deriving DecidableEq, Repr

/-- The fields of a DRIVE. Mask bits 4 to 7 are not read (R173). -/
def DriveRequest.ofPayload (p : List Byte) : DriveRequest :=
  { mask := BitVec.ofNat 4 (u8 p 0), epoch := byteAt p 1, targets := #v[s16 p 2, s16 p 4, s16 p 6, s16 p 8] }

/-- A channel is named by a DRIVE (R95). -/
def DriveRequest.names (d : DriveRequest) (c : ChanId) : Bool := d.mask.getLsbD c.val

/-- A target clamped to the channel's range (R95). -/
def clampTarget (c : ChanId) (t : Int) : Int :=
  if c = 2 then max 0 (min 1000 t) else max (-1000) (min 1000 t)

/-- The clamped target a DRIVE gives a channel. -/
def DriveRequest.target (d : DriveRequest) (c : ChanId) : Int := clampTarget c (d.targets.get c)

/-- A named channel's target was clamped (R97). -/
def DriveRequest.clamps (d : DriveRequest) : Bool :=
  allChans.any (fun c => d.names c && d.target c != d.targets.get c)

/-! ## STOP-ALL (R100, R174): COAST 0, BRAKE 1 -/

/-- The option of a STOP-ALL: whether it is BRAKE. -/
def stopOption (p : List Byte) : Option Bool := enableOfCode (u8 p 0)

/-! ## SET-PROFILE (R109, R175) -/

/-- The value check of SET-PROFILE. -/
def Overrides.ofPayload (p : List Byte) : Option Overrides := do
  let maximum ← inRange 0 1000 (u16 p 2)
  let slew ← inRange 0 1000 (u16 p 4)
  let limit ← inRange 0 4095 (u16 p 6)
  pure { maximum, slew, limit }

/-! ## DEFINE-ACQ (R8, R176) -/

/-- A unit number, or NONE as 0xFF (R170). -/
def unitOrNone (n bound : Nat) : Option (Option (Fin bound)) :=
  if n = 255 then some none else (unitNumber n bound).map some

/-- The analog channels of the first `n` elements (R176). -/
def elementsAt (p : List Byte) (offset : Nat) : Nat → Option (List (Fin 12))
  | 0 => some []
  | n + 1 => do
    let e ← unitNumber (u8 p offset) 12
    let rest ← elementsAt p (offset + 1) n
    pure (e :: rest)

/-- The wait limit: 0 or 10 to 65535 (R1, R5). -/
def waitLimitOf (n : Nat) : Option Nat := if n = 0 ∨ 10 ≤ n then some n else none

/-- The feedback destination: NONE, or a channel with an element index below the element count (R8, R176). -/
def feedbackOf (p : List Byte) (count : Nat) : Option (Option Feedback) := do
  let ch ← unitOrNone (u8 p 9) 4
  match ch with
  | none => some none
  | some c => if u8 p 10 < count then some (some { channel := c, element := u8 p 10 }) else none

/-- The window: NONE with flag bit 2 clear, else checked bounds and an element index below the count (R8, R176). -/
def windowOf (p : List Byte) (count : Nat) : Option (Option Window) :=
  if (u8 p 3).testBit 2 = false then some none
  else if u8 p 11 < count ∧ u16 p 12 ≤ u16 p 14 ∧ u16 p 14 ≤ 4095 then
    some (some { element := u8 p 11, low := u16 p 12, high := u16 p 14, trip := (u8 p 3).testBit 3 })
  else none

/-- A definition has a destination (R8 check 3). -/
def Definition.hasDestination (d : Definition) : Bool := d.ring.isSome || d.feedback.isSome || d.window.isSome

/-- The whole-definition checks of R8 check 3. -/
def Definition.sound (d : Definition) : Bool := d.hasDestination && !(d.repeating && d.anchor.isNone)

/-- The definition a DEFINE-ACQ payload carries, if it passes check 3 of R8. -/
def Definition.ofPayload (p : List Byte) : Option Definition :=
  if 16 ≤ u8 p 3 then none
  else do
    let level ← unitNumber (u8 p 1) 8
    let anchor ← unitOrNone (u8 p 2) 12
    let waitLimit ← waitLimitOf (u16 p 6)
    let ring ← unitOrNone (u8 p 8) 8
    let count ← inRange 1 8 (u8 p 16)
    let elements ← elementsAt p 17 count
    let feedback ← feedbackOf p count
    let window ← windowOf p count
    let d : Definition :=
      { level, anchor, elements, repeating := (u8 p 3).testBit 0, rounds := u16 p 4, waitLimit,
        atomic := (u8 p 3).testBit 1, ring, feedback, window }
    if d.sound then some d else none

/-! ## SET-ANCHOR (R39, R177) -/

/-- The settings a SET-ANCHOR writes. -/
structure AnchorWrite where
  mode : Option ReleaseMode
  insert : Option InsertPos
  divider : Option Nat
  period : Option Nat
  deriving DecidableEq, Repr

/-- The channel whose centre anchor this is (R25). -/
def centreOf (a : AnchorId) : Option ChanId := if h : a.val < 4 then some ⟨a.val, h⟩ else none

/-- The cadence anchor this is (R25). -/
def cadenceOf (a : AnchorId) : Option (Fin 4) :=
  if h : 4 ≤ a.val ∧ a.val < 8 then some ⟨a.val - 4, by omega⟩ else none

/-- A cadence period: 0 or 100 to 1,000,000 µs (R39). -/
def cadencePeriodOf (n : Nat) : Option Nat := if n = 0 then some 0 else inRange 100 1000000 n

/-- The value check of SET-ANCHOR (R39 check 2). -/
def AnchorWrite.ofPayload (a : AnchorId) (p : List Byte) : Option AnchorWrite :=
  let sel := u8 p 1
  if 16 ≤ sel then none
  else do
    let mode ← whenSelected sel 0 (ReleaseMode.ofCode (u8 p 2))
    let insert ← whenSelected sel 1 (InsertPos.ofCode (u8 p 3))
    let divider ← whenSelected sel 2 (if (centreOf a).isSome then inRange 1 256 (u16 p 4) else none)
    let period ← whenSelected sel 3 (if (cadenceOf a).isSome then cadencePeriodOf (u32 p 6) else none)
    pure { mode, insert, divider, period }

/-! ## SET-GUARD (R126, R178) -/

/-- The configuration a SET-GUARD writes. -/
structure GuardWrite where
  enabled : Bool
  activeHigh : Bool
  qualification : Nat
  action : Action
  capValue : Nat
  mask : BitVec 4
  epochOption : Bool
  anchorOption : Bool
  deriving DecidableEq, Repr

/-- The value check of SET-GUARD (R126 check 3). For an internal source the polarity and the qualification are not read:
they are active-low and 0. -/
def GuardWrite.ofPayload (isPin : Bool) (p : List Byte) : Option GuardWrite :=
  let flags := u8 p 1
  if 16 ≤ flags ∨ 16 ≤ u8 p 6 then none
  else do
    let qualification ← if isPin then inRange 0 15 (u8 p 2) else some 0
    let action ← Action.ofCode (u8 p 3)
    let capValue ← inRange 1 1000 (u16 p 4)
    pure { enabled := flags.testBit 0, activeHigh := isPin && flags.testBit 1, qualification, action, capValue,
           mask := BitVec.ofNat 4 (u8 p 6), epochOption := flags.testBit 2, anchorOption := flags.testBit 3 }

/-! ## SET-COUNTER (R151, R178) -/

/-- The fields a SET-COUNTER writes. -/
structure CounterWrite where
  position : Option (BitVec 32)
  tallyLimit : Option Nat
  quiet : Option Nat
  grace : Option Nat
  deriving DecidableEq, Repr

/-- A quiet time: 0 or 10 to 2000 ms (R143, R151). -/
def quietTimeOf (n : Nat) : Option Nat := if n = 0 then some 0 else inRange 10 2000 n

/-- The value check of SET-COUNTER (R151). -/
def CounterWrite.ofPayload (p : List Byte) : Option CounterWrite :=
  let sel := u8 p 1
  if 16 ≤ sel then none
  else do
    let position ← whenSelected sel 0 (some (BitVec.ofNat 32 (u32 p 2)))
    let tallyLimit ← whenSelected sel 1 (some (u16 p 6))
    let quiet ← whenSelected sel 2 (quietTimeOf (u16 p 8))
    let grace ← whenSelected sel 3 (inRange 0 2000 (u16 p 10))
    pure { position, tallyLimit, quiet, grace }

/-! ## Results and answers (R159, R171) -/

/-- The result codes. -/
inductive Result where
  | ok
  | clamped
  | unknownKind
  | badLength
  | badArg
  | busy
  | staleEpoch
  | guarded
  | channelOff
  | guardActive
  | noSuch
  deriving DecidableEq, Repr

/-- The code of a result (R171). -/
def Result.code : Result → Byte
  | .ok => 0
  | .clamped => 1
  | .unknownKind => 2
  | .badLength => 3
  | .badArg => 4
  | .busy => 5
  | .staleEpoch => 6
  | .guarded => 7
  | .channelOff => 8
  | .guardActive => 9
  | .noSuch => 10

/-- What a taken request leaves: the state after its effect, the result, and the reply fields after the reply head. -/
structure Answer where
  state : State
  result : Result
  fields : List Byte
  deriving DecidableEq, Repr

/-- A request that changes nothing. -/
def State.refuse (s : State) (result : Result) (fields : List Byte) : Answer := { state := s, result, fields }

/-- The states of the four channels, PC0 to PC3. -/
def State.chanStates (s : State) : List Byte := allChans.flatMap (fun c => out8 (s.chan c).state.code)

end Sys2Proof.Machine
end

