-- ==== Sys2Proof/Machine/Frames.lean ====
section
/-! DEFINITION. Frames and the bytes of a frame on the line (R155, R156, R171): the check of a received frame, a frame
as it is sent, and the ten levels that spell a byte. -/

namespace Sys2Proof.Machine

/-! ## Frames (R156, R171) -/

/-- The start byte of a frame (R156). -/
def startByte : Byte := 0xA5

/-- The sum of the bytes of a frame after the start byte, modulo 256 (R156). -/
def frameSum (bytes : List Byte) : Byte := bytes.foldl (· + ·) 0

/-- A permitted length byte (R156). -/
def lengthFits (len : Byte) : Bool := decide (2 ≤ len.toNat) && decide (len.toNat ≤ 250)

/-- The request in a good frame, given the bytes after the start byte: length, tag, kind, payload, checksum (R156). -/
def goodFrame (bytes : List Byte) : Option Request :=
  match bytes with
  | len :: tag :: kind :: rest =>
    if lengthFits len && bytes.length == len.toNat + 2 && frameSum bytes == 0 then
      some { tag := tag, kind := kind, payload := rest.take (len.toNat - 2) }
    else none
  | _ => none

/-- A frame on the line (R171): start byte, length, body, checksum. -/
def lineFrame (body : List Byte) : List Byte :=
  let len := BitVec.ofNat 8 body.length
  startByte :: len :: (body ++ [0 - frameSum (len :: body)])

/-! ## A byte on the line (R155); true is the high level -/

/-- The ten levels of a byte on the line (R155): the start bit low, the data bits with the least significant first, the
stop bit high. Each stands for one bit time, 1 µs. -/
def byteLevels (b : Byte) : List Bool := false :: ((List.range 8).map (fun i => b.getLsbD i) ++ [true])

/-- The number that bits spell, the least significant first. -/
def bitsValue : List Bool → Nat
  | [] => 0
  | b :: rest => b.toNat + 2 * bitsValue rest

/-- What the receiver reads from the ten levels of a byte, the last of them the stop bit (R155). With the stop bit high
it takes the byte. With the stop bit low the byte is discarded, and FRAMING_ERROR or LINK_BREAK follows. -/
def readLevels (levels : List Bool) : Option Byte :=
  match levels with
  | false :: rest =>
    if rest.length = 9 ∧ rest.getLast? = some true then some (BitVec.ofNat 8 (bitsValue (rest.take 8))) else none
  | _ => none

/-- The levels of bytes sent one after another without gaps (R155, R163). -/
def lineLevels (bytes : List Byte) : List Bool := bytes.flatMap byteLevels

end Sys2Proof.Machine
end

