-- ==== Sys2Proof/Machine/Moment.lean ====
section
/-! DEFINITION. What falls at the moment of a command and behind it: the next command of the queue, with no tick between
(log 6). A link break that falls with a frame's checksum byte finds the request in the queue (R169, log 35). A CANCEL-ACQ
that falls with a slot's entry into READY finds the slot there (R41, R59, R65, logs 30 and 34). -/

namespace Sys2Proof.Machine

/-- The next command is a link break that acts: the part is not held in reset and RXD has been seen high (R164, R179). -/
def State.breakNext (s : State) : Bool := s.pins.nrst && s.link.seenHigh && s.pending.head? == some .linkBreak

/-! ## A cancel at the moment of an entry into READY -/

/-- A request is a CANCEL-ACQ (kind 0x22, one payload byte: R173) of a slot that is READY. -/
def State.cancelsReady (s : State) (r : Request) : Bool :=
  r.tag != 0 && r.kind == 0x22 && r.payload.length == 1 &&
    (match unitNumber (u8 r.payload 0) 32 with
     | some y => (s.slot y).state == .ready
     | none => false)

/-- The request that the next command brings, if it brings one that can be a CANCEL-ACQ and is taken as it comes: as its
row, as a whole frame, or by the byte that completes a frame (R156). A frame with which a link break falls is not taken
(R169). -/
def State.arrivingNext (s : State) : Option Request :=
  match s.pending, s.link.mode with
  | .cancelAcq tag p :: _, _ => some { tag, kind := 0x22, payload := p }
  | .unknownKind tag kind p :: _, _ => some { tag, kind, payload := p }
  | .frameReceived bytes :: rest, _ => if rest.head? = some .linkBreak then none else goodFrame bytes
  | .byteReceived b :: rest, .frame taken => if rest.head? = some .linkBreak then none else goodFrame (taken ++ [b])
  | _, _ => none

/-- The next command is the end of a frame, and it makes room for a waiting request (R158, R163). -/
def State.roomNext (s : State) : Bool :=
  s.pending.head? == some .frameTransmitted && s.out.sending.isSome && s.freeTransmitter.mayTake

/-- The request that the next command has taken first: the one it brings on a line that is high, if no request waits, or
the oldest that waits, if the command makes room for it (R158). -/
def State.takenNext (s : State) : Option Request :=
  match s.link.requests with
  | [] => if s.mayTake && s.pins.rxd then s.arrivingNext else none
  | r :: _ => if s.roomNext then some r else none

/-- The next command takes a CANCEL-ACQ of a READY slot. -/
def State.cancelNext (s : State) : Bool := s.pins.nrst && s.takenNext.any s.cancelsReady

/-- Work in which no command of the queue falls: that of a request, which is taken whole before the next (R158). -/
def State.alone (s : State) (work : State → State) : State :=
  { work { s with pending := [] } with pending := s.pending }

end Sys2Proof.Machine
end

