-- ==== Sys2Proof/Machine/Rings.lean ====
section
/-! DEFINITION. The result rings: an entry joins a ring, with the full-ring rule and the watermark (R69-R71). -/

namespace Sys2Proof.Machine

/-- The next place of the 32, used in turn (R67). -/
def nextPlace (p : Nat) : Nat := (p + 1) % 32

/-- An entry joins a ring (R70). A full ring loses the oldest entry or the new one by its policy and sets its overrun
flag. -/
def Ring.join (r : Ring) (e : RingEntry) : Ring :=
  if r.entries.length < 32 then { r with entries := r.entries ++ [e], writePos := nextPlace r.writePos }
  else
    match r.policy with
    | .overwrite =>
      { r with entries := r.entries.drop 1 ++ [e], overrun := true,
               writePos := nextPlace r.writePos, readPos := nextPlace r.readPos }
    | .keep => { r with overrun := true }

/-- The count has risen from watermark - 1 to the watermark (R71). -/
def Ring.crosses (r : Ring) : Bool := decide (r.entries.length < 32) && r.entries.length + 1 == r.watermark

/-- RING-WATERMARK is posted when the join raised the count to the watermark (R71). -/
def State.postWatermark (s : State) (n : RingId) (crossed : Bool) (watermark : Nat) : State :=
  if crossed then s.post .ringWatermark n.val (BitVec.ofNat 16 watermark) else s

/-- One entry is written to a ring (R69). -/
def State.ringWrite (s : State) (n : RingId) (e : RingEntry) : State :=
  (s.setRing n ((s.ring n).join e)).postWatermark n (s.ring n).crosses (s.ring n).watermark

/-- The entry of a finished round is written to the slot's ring destination, if it has one (R69). -/
def State.writeRound (s : State) (dest : Option RingId) (e : RingEntry) : State :=
  match dest with
  | none => s
  | some n => s.ringWrite n e

/-- READ-RING's removal: the oldest `k` entries leave, and the overrun flag is cleared (R73). -/
def Ring.readOut (r : Ring) (k : Nat) : Ring :=
  { r with entries := r.entries.drop k, overrun := false, readPos := (r.readPos + (r.entries.take k).length) % 32 }

end Sys2Proof.Machine
end

