-- ==== Sys2Proof/Machine/Scheduler.lean ====
section
/-! DEFINITION. Wait lists, arming, release, the ready queue, dispatch and missed rounds, the completion path, and the
firing of an anchor (chapters 1 to 3). -/

namespace Sys2Proof.Machine

/-! ## Placement -/

/-- A slot joins a wait list (R33): after its own and more urgent levels, before less urgent ones. -/
def joinWait (levelOf : SlotId → Fin 8) (x : SlotId) : List SlotId → List SlotId
  | [] => [x]
  | y :: rest => if levelOf x < levelOf y then x :: y :: rest else y :: joinWait levelOf x rest

/-- A slot is placed in its level list (R44). -/
def placeIn (pos : InsertPos) (x : SlotId) (l : List SlotId) : List SlotId :=
  match pos with
  | .tail => l ++ [x]
  | .head => x :: l

/-- A slot stands in the level list of its own level at a position (R43, R44). -/
def State.placeReady (s : State) (x : SlotId) (pos : InsertPos) : State :=
  s.setLevel (s.slot x).defn.level (placeIn pos x (s.level (s.slot x).defn.level))

/-- A slot enters READY with cursor 0: its ready-since time is written (R13, R44). -/
def State.enterReady (s : State) (x : SlotId) (pos : InsertPos) : State :=
  (s.setSlot x { s.slot x with state := .ready, readySince := s.now }).placeReady x pos

/-- A slot enters IDLE from a run: cursor 0, no partial values, abort flags clear (R10, R13, R16, R17). -/
def Slot.atRest (v : Slot) : Slot :=
  { v with state := .idle, cursor := 0, partials := [], late := false, cancel := false }

/-- The arming procedure against an anchor (R38). -/
def State.arm (s : State) (x : SlotId) (a : AnchorId) : State :=
  let an := s.anchor a
  if an.mode = .one ∧ 0 < an.bank then
    (s.setAnchor a { an with bank := an.bank - 1 }).enterReady x an.insert
  else
    (s.setAnchor a { an with waitList := joinWait (fun y => (s.slot y).defn.level) x an.waitList }).setSlot x
      { s.slot x with state := .waiting }

/-! ## Finishing a round (R20-R23, R63) -/

/-- The slot closes the round (R20): the sequence advances, cursor, partial values and abort flags are reset. -/
def Slot.closed (v : Slot) : Slot :=
  { v with sequence := v.sequence + 1, cursor := 0, partials := [], late := false, cancel := false }

/-- A slot comes to rest at the end of its run (R21, R22). -/
def State.rest (s : State) (x : SlotId) : State := s.setSlot x (s.slot x).atRest

/-- The re-arm of a REPEATING slot against its anchor (R23). A REPEATING definition names an anchor (R8); log 21 for
one that does not. -/
def State.rearm (s : State) (x : SlotId) : State :=
  match (s.slot x).defn.anchor with
  | some a => s.arm x a
  | none => s.rest x

/-- A counted run lowers rounds remaining by one (R22). -/
def State.countRound (s : State) (x : SlotId) : State :=
  s.setSlot x { s.slot x with remaining := (s.slot x).remaining - 1 }

/-- The completion path (R21-R23) of a slot that has closed the round `number`. -/
def State.completionPath (s : State) (x : SlotId) (number : BitVec 16) : State :=
  if (s.slot x).defn.repeating = false then s.rest x
  else if (s.slot x).defn.rounds = 0 then s.rearm x
  else if (s.slot x).remaining - 1 = 0 then ((s.countRound x).rest x).post .acqDone x.val number
  else (s.countRound x).rearm x

/-- The slot closes the round and takes its completion path (R20). -/
def State.finishRound (s : State) (x : SlotId) : State :=
  (s.setSlot x (s.slot x).closed).completionPath x (s.slot x).sequence

/-- The feedback-missed flag of a missed round's channel (R63 step 3, R78). -/
def State.missFeedback (s : State) (dest : Option Feedback) : State :=
  match dest with
  | none => s
  | some f => s.setFeedbackMissed f.channel

/-- A round is finished as missed (R63). -/
def State.finishMissed (s : State) (x : SlotId) : State :=
  let v := s.slot x
  let s := s.setSlot x { v with roundTime := s.now }
  let s := s.writeRound v.defn.ring
    { slot := x, status := .missed, number := v.sequence, roundTime := s.now, values := [] }
  let s := s.missFeedback v.defn.feedback
  let s := s.post .acqMissed x.val v.sequence
  s.finishRound x

/-! ## Dispatch (R50-R52) -/

/-- The analog channel of the element at a slot's cursor (R48). The cursor of a slot that holds a definition is below
its element count (R10). -/
def Slot.elementAtCursor (v : Slot) : Fin 12 := (v.defn.elements[v.cursor]?).getD 0

/-- The conversion of the element at the slot's cursor starts (R48, R51, R55). -/
def State.startElement (s : State) (x : SlotId) : State :=
  { s with conv := some { slot := x, channel := (s.slot x).elementAtCursor, start := s.now, elapsed := 0 } }

/-- A dispatched slot enters CONVERTING (R51). A round that begins takes its time stamp. -/
def State.startConversion (s : State) (x : SlotId) : State :=
  let v := s.slot x
  (s.setSlot x { v with state := .converting, roundTime := if v.cursor = 0 then s.now else v.roundTime }).startElement x

/-- The most urgent non-empty level with its head and the slots behind the head (R43). -/
def State.mostUrgent (s : State) : Option (Fin 8 × SlotId × List SlotId) :=
  allLevels.findSome? (fun l =>
    match s.level l with
    | [] => none
    | x :: rest => some (l, x, rest))

/-- Dispatches, one after another, until one starts a conversion or the queue is empty (R50-R52). -/
def State.dispatchChain : Nat → State → State
  | 0, s => s
  | n + 1, s =>
    match s.conv, s.mostUrgent with
    | some _, _ => s
    | none, none => s
    | none, some (l, x, rest) =>
      if (s.slot x).late then State.dispatchChain n ((s.setLevel l rest).finishMissed x)
      else (s.setLevel l rest).startConversion x

/-- A bound on the dispatches of one chain: each missed round takes a slot out of READY or spends a banked firing
(R52). -/
def State.chainBound (s : State) : Nat :=
  (s.ready.toList.map List.length).sum + (s.anchors.toList.map (fun a => a.bank)).sum + 1

/-- Dispatch is made if the converter is IDLE and the queue is not empty (R50). -/
def State.dispatch (s : State) : State := State.dispatchChain s.chainBound s

/-- The dispatch that an entry into READY, or the converter's return to IDLE, calls for (R50). A CANCEL-ACQ of a READY
slot at the same moment finds that slot READY and removes it, and makes the dispatch (R41, R59; log 30). -/
def State.settle (s : State) : State := if s.cancelNext then s else s.dispatch

/-! ## Firing an anchor (R34-R36) -/

/-- A released slot leaves WAITING and enters READY (R36). -/
def State.release (s : State) (pos : InsertPos) (x : SlotId) : State := s.enterReady x pos

/-- The released slots are placed. At the head they are placed last first, so that they keep their wait-list order
(R36). -/
def State.releaseAll (s : State) (pos : InsertPos) (l : List SlotId) : State :=
  match pos with
  | .tail => l.foldl (fun s x => s.release .tail x) s
  | .head => l.foldr (fun x s => s.release .head x) s

/-- What a firing does at the anchor: ONE mode (R34) and ALL mode (R35). -/
def State.fireAnchor (s : State) (a : AnchorId) : State :=
  let an := s.anchor a
  match an.mode, an.waitList with
  | .one, [] => s.setAnchor a { an with bank := min 3 (an.bank + 1) }
  | .one, x :: rest => (s.setAnchor a { an with waitList := rest }).release an.insert x
  | .all, l => (s.setAnchor a { an with waitList := [] }).releaseAll an.insert l

/-- An anchor fires: the release, then dispatch if the converter is IDLE (R34-R36, R50). A CANCEL-ACQ of the same moment
finds a released slot READY (R41). -/
def State.fire (s : State) (a : AnchorId) : State := (s.fireAnchor a).settle

/-- The centre anchor of a channel (R25). -/
def centreAnchor (c : ChanId) : AnchorId := ⟨c.val, by omega⟩
/-- The anchor number of a cadence anchor (R25). -/
def cadenceAnchor (k : Fin 4) : AnchorId := ⟨4 + k.val, by omega⟩
/-- The tally anchor of a counting unit (R25). -/
def tallyAnchor (u : UnitId) : AnchorId := ⟨8 + u.val, by omega⟩
/-- The guard anchor (R25). -/
def guardAnchor : AnchorId := 11

end Sys2Proof.Machine
end

