-- ==== Sys2Proof/Machine/Anchors.lean ====
section
/-! DEFINITION. The requests to an anchor and to a ring: SET-ANCHOR (R39, R40), SET-RING (R72), READ-RING (R73). -/

namespace Sys2Proof.Machine

/-! ## SET-ANCHOR -/

/-- The release mode and the insert position are written (R40). Setting ALL discards the banked firings. -/
def Anchor.written (an : Anchor) (w : AnchorWrite) : Anchor :=
  { an with mode := w.mode.getD an.mode
            insert := w.insert.getD an.insert
            bank := if w.mode = some .all then 0 else an.bank }

/-- The divider of a centre anchor's channel is written, and its centre count set to 0 (R28). -/
def State.writeDivider (s : State) (a : AnchorId) (divider : Option Nat) : State :=
  match centreOf a, divider with
  | some c, some d => s.setChan c { s.chan c with divider := d, centreCount := 0 }
  | _, _ => s

/-- A cadence as a period write leaves it (R30). -/
def Cadence.started (period : Nat) (now : Stamp) : Cadence :=
  { period := period, due := if period = 0 then 0 else after now period }

/-- The period of a cadence anchor is written (R30). -/
def State.writePeriod (s : State) (a : AnchorId) (period : Option Nat) : State :=
  match cadenceOf a, period with
  | some k, some p => s.setCadence k (Cadence.started p s.now)
  | _, _ => s

/-- The effect of an accepted SET-ANCHOR (R40). -/
def State.writeAnchor (s : State) (a : AnchorId) (w : AnchorWrite) : State :=
  ((s.setAnchor a ((s.anchor a).written w)).writeDivider a w.divider).writePeriod a w.period

/-- The divider an anchor reports: a centre anchor's is its channel's, a tally or guard anchor's is 0 (R40). That a cadence
anchor reports 0 as well is the model's choice (log 33). -/
def State.dividerOf (s : State) (a : AnchorId) : Nat :=
  match centreOf a with
  | some c => (s.chan c).divider
  | none => 0

/-- The period and due time an anchor reports: a cadence anchor's are its own, a tally or guard anchor's are 0 (R40). That
a centre anchor reports 0 as well is the model's choice (log 33). -/
def State.cadenceReport (s : State) (a : AnchorId) : List Byte :=
  match cadenceOf a with
  | some k => out32 (s.cadences.get k).period ++ outStamp (s.cadences.get k).due
  | none => out32 0 ++ out32 0

/-- The reply fields of SET-ANCHOR (R40, R177). -/
def State.anchorReport (s : State) (a : AnchorId) : List Byte :=
  let an := s.anchor a
  out8 a.val ++ out8 an.mode.code ++ out8 an.insert.code ++ out8 an.bank ++ out8 an.waitList.length ++
    out16 (s.dividerOf a) ++ s.cadenceReport a

/-- SET-ANCHOR, taken (R39, R40). -/
def takeSetAnchor (p : List Byte) (s : State) : Answer :=
  match unitNumber (u8 p 0) 12 with
  | none => s.refuse .noSuch [byteAt p 0]
  | some a =>
    match AnchorWrite.ofPayload a p with
    | none => s.refuse .badArg [byteAt p 0]
    | some w => { state := s.writeAnchor a w, result := .ok, fields := (s.writeAnchor a w).anchorReport a }

/-! ## SET-RING and READ-RING -/

/-- SET-RING, taken (R72). -/
def takeSetRing (p : List Byte) (s : State) : Answer :=
  match unitNumber (u8 p 0) 8 with
  | none => s.refuse .noSuch [byteAt p 0]
  | some n =>
    match RingPolicy.ofCode (u8 p 1), inRange 1 32 (u8 p 2) with
    | some policy, some watermark =>
      { state := s.setRing n { s.ring n with policy, watermark }, result := .ok,
        fields := out8 n.val ++ out8 policy.code ++ out8 watermark ++ out8 (s.ring n).entries.length }
    | _, _ => s.refuse .badArg [byteAt p 0]

/-- Byte 0 of a ring entry: the slot number and the status bit (R177). -/
def RingEntry.headByte (e : RingEntry) : Byte :=
  BitVec.ofNat 8 (e.slot.val + bitOf (e.status == .missed) 7)

/-- A ring entry as READ-RING sends it (R177). -/
def RingEntry.bytes (e : RingEntry) : List Byte :=
  e.headByte :: (out16 e.number.toNat ++ outStamp e.roundTime ++ out8 e.values.length ++
    e.values.flatMap (fun v => out16 v.toNat))

/-- The reply fields of an accepted READ-RING of at most `k` entries (R73, R177). -/
def Ring.readReport (r : Ring) (n : RingId) (k : Nat) : List Byte :=
  out8 n.val ++ out8 (r.entries.take k).length ++ (r.entries.take k).flatMap RingEntry.bytes ++
    out8 (r.entries.drop k).length ++ outFlag r.overrun

/-- READ-RING, taken (R73). -/
def takeReadRing (p : List Byte) (s : State) : Answer :=
  match unitNumber (u8 p 0) 8 with
  | none => s.refuse .noSuch [byteAt p 0]
  | some n =>
    match inRange 1 10 (u8 p 1) with
    | none => s.refuse .badArg [byteAt p 0]
    | some k => { state := s.setRing n ((s.ring n).readOut k), result := .ok, fields := (s.ring n).readReport n k }

end Sys2Proof.Machine
end

