-- ==== Sys2Proof/Machine/Guard.lean ====
section
/-! DEFINITION. The guard unit: trips, layers handed to channels, internal conditions, pin sources (chapter 7). -/

namespace Sys2Proof.Machine

/-- The code of an action (R170). -/
def Action.code : Action → Nat
  | .report => 0
  | .cap => 1
  | .coast => 2
  | .brake => 3

/-- The detail of GUARD-TRIP: the action, and the epoch the trip leaves in force (R133, R172). -/
def tripDetail (action : Action) (epoch : BitVec 8) : BitVec 16 := epoch ++ BitVec.ofNat 8 action.code

/-- The guard layer of each channel in a mask is recomputed and handed to the channel (R136). -/
def State.applyMask (s : State) (mask : BitVec 4) : State :=
  allChans.foldl (fun s c => if mask.getLsbD c.val then s.applyLayer c else s) s

/-- The epoch and anchor options of a trip (R133 steps 3 and 4). -/
def State.tripOptions (s : State) (epochOption anchorOption : Bool) : State :=
  let s := if epochOption then s.advanceEpoch else s
  if anchorOption then s.fire guardAnchor else s

/-- The work of a trip, once the source has entered its new state (R133). -/
def State.tripWork (s : State) (n : SourceId) : State :=
  let src := s.source n
  let s := s.post .guardTrip n.val (tripDetail src.action (if src.epochOption then s.epoch + 1 else s.epoch))
  let s := s.applyMask src.mask
  s.tripOptions src.epochOption src.anchorOption

/-- A pin source trips: it enters TRIPPED, with its tripped-since time (R129, R133). -/
def State.tripPin (s : State) (n : SourceId) : State :=
  (s.setSource n { s.source n with state := .tripped, trippedSince := s.now, heldLong := false }).tripWork n

/-- An internal source trips: it enters LATCHED from INACTIVE (R131, R133). -/
def State.tripInternal (s : State) (n : SourceId) : State :=
  (s.setSource n { s.source n with state := .latched }).tripWork n

/-- An internal source meets its condition (R131, R132). -/
def State.internalCondition (s : State) (n : SourceId) : State :=
  let src := s.source n
  if src.enabled = false then s
  else
    match src.state with
    | .inactive => s.tripInternal n
    | .latched => s.post .guardTrip n.val (tripDetail src.action s.epoch)
    | _ => s

/-- The source number of a pin source (R125). -/
def pinSource (p : Fin 8) : SourceId := ⟨p.val, by omega⟩
/-- The source number of a unit's stall source (R125). -/
def stallSource (u : UnitId) : SourceId := ⟨8 + u.val, by omega⟩
/-- The source number of W (R125). -/
def windowSource : SourceId := 11

/-- The input pin of a source, if it is a pin source (R125). -/
def pinOf (n : SourceId) : Option (Fin 8) := if h : n.val < 8 then some ⟨n.val, h⟩ else none

/-- A pin level is the asserted one under a source's polarity (R128). -/
def Source.assertedBy (src : Source) (level : Bool) : Bool := level == src.activeHigh

/-- A source is a pin source whose pin stands asserted (R128). -/
def State.pinAsserted (s : State) (n : SourceId) : Bool :=
  match pinOf n with
  | none => false
  | some p => (s.source n).assertedBy (s.pins.gin.get p)

/-- A pin source starts qualifying now (R129). -/
def State.qualify (s : State) (n : SourceId) : State :=
  s.setSource n { s.source n with state := .qualifying, qualStart := s.now }

/-- A pin source in INACTIVE sees its asserted level (R129). -/
def State.seeAsserted (s : State) (n : SourceId) : State :=
  if (s.source n).qualification = 0 then s.tripPin n else s.qualify n

/-- The level of an input pin is written. -/
def State.setGin (s : State) (p : Fin 8) (level : Bool) : State :=
  { s with pins := { s.pins with gin := Table.put s.pins.gin p level } }

/-- GINn changes to its asserted level (R128, R129). -/
def State.assertPin (s : State) (p : Fin 8) : State :=
  let src := s.source (pinSource p)
  let s := s.setGin p src.activeHigh
  if src.enabled ∧ src.state = .inactive then s.seeAsserted (pinSource p) else s

/-- The time a source stood TRIPPED, in whole milliseconds, saturating at 65535 (R130, log 13). -/
def Source.heldMillis (src : Source) (now : Stamp) : Nat :=
  if src.heldLong then 65535 else min 65535 ((now - src.trippedSince).toNat / 1000)

/-- GINn changes to its deasserted level (R130). -/
def State.deassertPin (s : State) (p : Fin 8) : State :=
  let n := pinSource p
  let src := s.source n
  let s := s.setGin p (!src.activeHigh)
  match src.state with
  | .qualifying => s.setSource n { src with state := .inactive }
  | .tripped =>
    (s.setSource n { src with state := .latched }).post .guardReleased n.val
      (BitVec.ofNat 16 (src.heldMillis s.now))
  | _ => s

/-- The qualification of a pin source has run its time (R129). -/
def State.qualificationOver (s : State) (n : SourceId) : Bool :=
  reached (after (s.source n).qualStart (millis (s.source n).qualification)) s.now

/-- The qualification of a pin source expires: if the pin is still asserted, the source trips (R129). -/
def State.expireQualification (s : State) (p : Fin 8) : State :=
  let n := pinSource p
  if (s.source n).state = .qualifying ∧ s.pinAsserted n ∧ s.qualificationOver n then s.tripPin n else s

/-- GUARD_PIN_ASSERT (R129). -/
def execGuardPinAssert (p : Fin 8) (s : State) : Answered :=
  .next (if s.pins.nrst then s.assertPin p else s.setGin p (s.source (pinSource p)).activeHigh)

/-- GUARD_PIN_DEASSERT (R130). -/
def execGuardPinDeassert (p : Fin 8) (s : State) : Answered :=
  .next (if s.pins.nrst then s.deassertPin p else s.setGin p (!(s.source (pinSource p)).activeHigh))

/-- QUALIFICATION_EXPIRY (R129). -/
def execQualificationExpiry (p : Fin 8) (s : State) : Answered := s.live (fun s => s.expireQualification p)

end Sys2Proof.Machine
end

