-- ==== Sys2Proof/Machine/Counters.lean ====
section
/-! DEFINITION. The counting units: decoding, counted edges, the tally, grace, stall, SET-COUNTER, READ-COUNTERS
(chapter 8). -/

namespace Sys2Proof.Machine

/-! ## Counted edges and the tally (R144, R146, R147, R149) -/

/-- This counted edge brings the tally to the limit (R147). -/
def Counter.wraps (k : Counter) : Bool := k.tallyLimit != 0 && decide (k.tallyLimit ≤ k.tally + 1)

/-- The position after one counted edge (R144, R146), wrapping. -/
def stepPosition (p : BitVec 32) (up : Bool) : BitVec 32 := if up then p + 1 else p - 1

/-- The tally after one counted edge (R147). -/
def Counter.nextTally (k : Counter) : Nat :=
  if k.tallyLimit = 0 then k.tally else if k.wraps then 0 else k.tally + 1

/-- A unit after one counted edge (R144, R147, R149). -/
def Counter.counted (k : Counter) (up : Bool) (now : Stamp) : Counter :=
  { k with position := stepPosition k.position up
           tally := k.nextTally
           quietStart := if k.armed then now else k.quietStart }

/-- The lower 16 bits of a position, as events carry them (R172). -/
def lowPosition (k : Counter) : BitVec 16 := k.position.setWidth 16

/-- TALLY is posted and the tally anchor fires when the edge wrapped the tally (R147). -/
def State.wrapTally (s : State) (u : UnitId) (wrapped : Bool) : State :=
  if wrapped then (s.post .tally u.val (lowPosition (s.counter u))).fire (tallyAnchor u) else s

/-- One counted edge of a unit (R144, R146, R147). -/
def State.countEdge (s : State) (u : UnitId) (up : Bool) : State :=
  (s.setCounter u ((s.counter u).counted up s.now)).wrapTally u (s.counter u).wraps

/-! ## The quadrature decoders (R144, R145) -/

/-- The next pair in the forward order 00, 10, 11, 01 (R144). -/
def LinePair.next (p : LinePair) : LinePair := { a := !p.b, b := p.a }
/-- The previous pair, in the reverse order (R144). -/
def LinePair.prev (p : LinePair) : LinePair := { a := p.b, b := !p.a }

/-- The counting unit of a decoder. -/
def unitOfDecoder (d : Fin 2) : UnitId := ⟨d.val, by omega⟩

def State.decoder (s : State) (d : Fin 2) : Decoder := s.decoders.get d

/-- The levels on the lines of a wheel encoder are written. -/
def State.setLines (s : State) (d : Fin 2) (p : LinePair) : State :=
  { s with pins := { s.pins with enc := Table.put s.pins.enc d p } }

/-- The new pair becomes the last line pair (R144, R145). -/
def State.takePair (s : State) (d : Fin 2) (p : LinePair) : State :=
  s.setDecoder d { s.decoder d with last := p }

/-- An illegal step (R145): the count-error flag is set and COUNT-ERROR posted. -/
def State.illegalStep (s : State) (d : Fin 2) : State :=
  (s.setDecoder d { s.decoder d with countError := true }).post .countError d.val
    (lowPosition (s.counter (unitOfDecoder d)))

/-- A decoder sees a pair (R144, R145). -/
def State.decode (s : State) (d : Fin 2) (p : LinePair) : State :=
  let last := (s.decoder d).last
  if p = last then s
  else if p = last.next then (s.takePair d p).countEdge (unitOfDecoder d) true
  else if p = last.prev then (s.takePair d p).countEdge (unitOfDecoder d) false
  else (s.takePair d p).illegalStep d

/-- The lines of CU0 or CU1 show these levels (R144). -/
def State.quadrature (s : State) (d : Fin 2) (p : LinePair) : State := (s.setLines d p).decode d p

/-- The pair to which a decoder moves for a counted edge up or down (R144). -/
def LinePair.moved (p : LinePair) (up : Bool) : LinePair := if up then p.next else p.prev

/-- A counted edge that wraps the tally (R147), taken only where it brings the tally to its limit (log 8). CU2 counts
rising edges only (R146), so it has no edge down. -/
def State.wrappingEdge (s : State) (u : UnitId) (up : Bool) : State :=
  if (s.counter u).wraps = false then s
  else
    match u with
    | 0 => s.quadrature 0 ((s.decoder 0).last.moved up)
    | 1 => s.quadrature 1 ((s.decoder 1).last.moved up)
    | 2 => if up then s.countEdge 2 true else s

/-! ## Grace and stall (R148-R150) -/

/-- The magnitude of the channel a unit watches. -/
def State.watched (s : State) (u : UnitId) : Nat := (s.chan (chanOf u)).mag

/-- A unit's grace runs (R148; log 23): its channel's magnitude is above 0, it is not armed, and its lockout is
clear. -/
def State.graceRuns (s : State) (u : UnitId) : Bool :=
  s.watched u != 0 && !(s.counter u).armed && !(s.counter u).lockout

/-- A running grace has elapsed (R148). -/
def State.graceOver (s : State) (u : UnitId) : Bool :=
  s.graceRuns u && reached (after (s.counter u).graceStart (millis (s.counter u).grace)) s.now

/-- The grace of a unit expires: it arms (R148). -/
def State.expireGrace (s : State) (u : UnitId) : State :=
  if s.graceOver u then s.setCounter u ((s.counter u).arm s.now) else s

/-- The quiet interval of an armed unit has expired (R149). -/
def State.quietOver (s : State) (u : UnitId) : Bool :=
  (s.counter u).armed && (s.counter u).quiet != 0 &&
    reached (after (s.counter u).quietStart (millis (s.counter u).quiet)) s.now

/-- Step 3 of a stall (R150): the unit disarms; the lockout is set unless the channel's magnitude is 0 now. -/
def State.disarmStalled (s : State) (u : UnitId) : State :=
  s.setCounter u { s.counter u with armed := false, lockout := (s.counter u).lockout || s.watched u != 0 }

/-- The work of a stall (R150). -/
def State.stallWork (s : State) (u : UnitId) : State :=
  ((s.post .stall u.val (BitVec.ofNat 16 (s.watched u))).internalCondition (stallSource u)).disarmStalled u

/-- The quiet interval of a unit expires: a stall (R150). -/
def State.detectStall (s : State) (u : UnitId) : State := if s.quietOver u then s.stallWork u else s

/-! ## SET-COUNTER and READ-COUNTERS (R151, R152) -/

/-- The tally after a write of the tally limit (R151). -/
def tallyUnder (limit tally : Nat) : Nat := if tally < limit then tally else 0

/-- The fields of a unit that a SET-COUNTER writes (R151). A write of a quiet time restarts an armed unit's interval. -/
def Counter.written (k : Counter) (w : CounterWrite) (now : Stamp) : Counter :=
  { k with position := w.position.getD k.position
           tallyLimit := w.tallyLimit.getD k.tallyLimit
           tally := match w.tallyLimit with
             | some limit => tallyUnder limit k.tally
             | none => k.tally
           quiet := w.quiet.getD k.quiet
           quietStart := if k.armed ∧ w.quiet.isSome ∧ w.quiet ≠ some 0 then now else k.quietStart
           grace := w.grace.getD k.grace }

/-- A grace write is compared with the running grace at once (R151). -/
def State.compareGrace (s : State) (u : UnitId) (written : Bool) : State :=
  if written then s.expireGrace u else s

/-- The effect of an accepted SET-COUNTER (R151; order of its parts: log 26). -/
def State.writeCounter (s : State) (u : UnitId) (w : CounterWrite) : State :=
  (s.setCounter u ((s.counter u).written w s.now)).compareGrace u w.grace.isSome

/-- The reply fields of SET-COUNTER (R151, R178). -/
def State.counterReport (s : State) (u : UnitId) : List Byte :=
  let k := s.counter u
  out8 u.val ++ out32 k.position.toNat ++ out16 k.tally ++ out16 k.tallyLimit ++ out16 k.quiet ++ out16 k.grace ++
    outFlag k.armed

/-- SET-COUNTER, taken (R151). -/
def takeSetCounter (p : List Byte) (s : State) : Answer :=
  match unitNumber (u8 p 0) 3 with
  | none => s.refuse .noSuch [byteAt p 0]
  | some u =>
    match CounterWrite.ofPayload p with
    | none => s.refuse .badArg [byteAt p 0]
    | some w => { state := s.writeCounter u w, result := .ok, fields := (s.writeCounter u w).counterReport u }

/-- The count-error flag READ-COUNTERS reports for a unit; 0 for CU2 (R178). -/
def State.countErrorOf (s : State) (u : UnitId) : Bool :=
  if h : u.val < 2 then (s.decoder ⟨u.val, h⟩).countError else false

/-- One unit in the READ-COUNTERS reply (R178). -/
def State.unitReport (s : State) (u : UnitId) : List Byte :=
  let k := s.counter u
  out32 k.position.toNat ++ out16 k.tally ++ out8 (bitOf k.armed 0 + bitOf (s.countErrorOf u) 1)

/-- READ-COUNTERS, taken (R152). -/
def takeReadCounters (_p : List Byte) (s : State) : Answer :=
  { state := s, result := .ok, fields := allUnits.flatMap s.unitReport }

/-! ## The rows -/

/-- QUADRATURE_STEP (R144, R145). A part held in reset only has the levels on its pins (R154). -/
def execQuadratureStep (d : Fin 2) (a b : Bool) (s : State) : Answered :=
  .next (if s.pins.nrst then s.quadrature d { a, b } else s.setLines d { a, b })

/-- TACH_EDGE (R146). -/
def execTachEdge (s : State) : Answered := s.live (fun s => s.countEdge 2 true)

/-- TALLY_WRAP (R147, log 8). -/
def execTallyWrap (u : UnitId) (up : Bool) (s : State) : Answered := s.live (fun s => s.wrappingEdge u up)

/-- GRACE_EXPIRY (R148). -/
def execGraceExpiry (u : UnitId) (s : State) : Answered := s.live (fun s => s.expireGrace u)

/-- STALL (R150). -/
def execStall (u : UnitId) (s : State) : Answered := s.live (fun s => s.detectStall u)

end Sys2Proof.Machine
end

