-- ==== Sys2Proof/Machine/GuardRequests.lean ====
section
/-! DEFINITION. The requests to a guard source: SET-GUARD (R126, R127) and CLEAR-TRIP (R137, R138). -/

namespace Sys2Proof.Machine

/-- The reply fields that name a source and a state. -/
def sourceReport (n : SourceId) (st : SourceState) : List Byte := out8 n.val ++ out8 st.code

/-! ## SET-GUARD -/

/-- A source with a new configuration. It stands INACTIVE until its pin is seen: a SET-GUARD finds it INACTIVE or
QUALIFYING, and a qualification in progress is abandoned (R127). -/
def Source.configured (src : Source) (w : GuardWrite) : Source :=
  { src with enabled := w.enabled, activeHigh := w.activeHigh, qualification := w.qualification, action := w.action,
             capValue := w.capValue, mask := w.mask, epochOption := w.epochOption, anchorOption := w.anchorOption,
             state := .inactive }

/-- An INACTIVE source that is enabled and finds its pin asserted sees the asserted level now (R127, R128). A trip is part
of the request, which is taken whole (R158; log 34). -/
def State.seePin (s : State) (n : SourceId) : State :=
  if (s.source n).enabled ∧ s.pinAsserted n then s.alone (fun s => s.seeAsserted n) else s

/-- The effect of an accepted SET-GUARD (R127). -/
def State.writeGuard (s : State) (n : SourceId) (w : GuardWrite) : State :=
  (s.setSource n ((s.source n).configured w)).seePin n

/-- The flags byte of a guard configuration (R178). -/
def GuardWrite.flagByte (w : GuardWrite) : Nat :=
  bitOf w.enabled 0 + bitOf w.activeHigh 1 + bitOf w.epochOption 2 + bitOf w.anchorOption 3

/-- The configuration as written, in the layout of offsets 1 to 6 (R178). -/
def GuardWrite.report (w : GuardWrite) : List Byte :=
  out8 w.flagByte ++ out8 w.qualification ++ out8 w.action.code ++ out16 w.capValue ++ out8 w.mask.toNat

/-- A source is TRIPPED or LATCHED (R126 check 2). -/
def SourceState.acting : SourceState → Bool
  | .inactive => false
  | .qualifying => false
  | .tripped => true
  | .latched => true

/-- SET-GUARD, taken (R126, R127). -/
def takeSetGuard (p : List Byte) (s : State) : Answer :=
  match unitNumber (u8 p 0) 12 with
  | none => s.refuse .noSuch [byteAt p 0]
  | some n =>
    if (s.source n).state.acting then s.refuse .busy (sourceReport n (s.source n).state)
    else
      match GuardWrite.ofPayload (pinOf n).isSome p with
      | none => s.refuse .badArg (sourceReport n (s.source n).state)
      | some w =>
        { state := s.writeGuard n w, result := .ok,
          fields := sourceReport n ((s.writeGuard n w).source n).state ++ w.report }

/-! ## CLEAR-TRIP -/

/-- A LATCHED source as the clear leaves it (R137). -/
def Source.cleared (src : Source) : Source :=
  { src with state := .inactive, trippedSince := 0, heldLong := false }

/-- What follows the clear (R137, R138): an asserted pin with qualification 0 trips at once, with one layer recompute;
otherwise an asserted pin qualifies, and the layers are recomputed. -/
def State.afterClear (s : State) (n : SourceId) : State :=
  if (s.source n).enabled ∧ s.pinAsserted n then
    if (s.source n).qualification = 0 then s.alone (fun s => s.tripPin n) else (s.qualify n).applyMask (s.source n).mask
  else s.applyMask (s.source n).mask

/-- The effect of a CLEAR-TRIP that is not refused (R137). -/
def State.clearTrip (s : State) (n : SourceId) : State :=
  if (s.source n).state = .latched then (s.setSource n (s.source n).cleared).afterClear n else s

/-- CLEAR-TRIP, taken (R137). The reply gives the state found and the state left. -/
def takeClearTrip (p : List Byte) (s : State) : Answer :=
  match unitNumber (u8 p 0) 12 with
  | none => s.refuse .noSuch [byteAt p 0]
  | some n =>
    if (s.source n).state = .tripped then
      s.refuse .guardActive (sourceReport n .tripped ++ out8 SourceState.tripped.code)
    else
      { state := s.clearTrip n, result := .ok,
        fields := sourceReport n (s.source n).state ++ out8 ((s.clearTrip n).source n).state.code }

end Sys2Proof.Machine
end

