-- ==== Sys2Proof/Machine/Pulse.lean ====
section
/-! DEFINITION. The pulse unit: SET-CHANNEL, DRIVE, STOP-ALL, the profiles, SNAPSHOT, the hold timers, the ramp tick and
the period boundary (chapters 5 and 6). -/

namespace Sys2Proof.Machine

/-! ## SET-CHANNEL (R84, R85, R90) -/

/-- The fields of a channel that a SET-CHANNEL writes as they stand (R85): the period is pending, the divider sets the
centre count to 0. -/
def Channel.written (c : Channel) (w : ChannelWrite) : Channel :=
  { c with pendingPeriod := w.period.or c.pendingPeriod
           minPulse := w.minPulse.getD c.minPulse
           maxBase := w.maxBase.getD c.maxBase
           slewBase := w.slewBase.getD c.slewBase
           limitBase := w.limitBase.getD c.limitBase
           gain := w.gain.getD c.gain
           relax := w.relax.getD c.relax
           rounding := w.rounding.getD c.rounding
           divider := w.divider.getD c.divider
           centreCount := if w.divider.isSome then 0 else c.centreCount }

/-- The group of a channel (R98). -/
def groupOf (c : ChanId) : HoldGroup := if c = 2 then .blade else .motion

def State.hold (s : State) (g : HoldGroup) : Hold := s.holds.get (groupIndex g)

/-- The hold time of a channel's group is written; a running timer keeps its remaining time (R85). -/
def State.writeHoldTime (s : State) (c : ChanId) (time : Option Nat) : State :=
  match time with
  | none => s
  | some t => s.setHold (groupIndex (groupOf c)) { s.hold (groupOf c) with time := t }

/-- A pending period comes into force, and the next on-ticks are recomputed with it (R87 step 1). -/
def State.takePeriod (s : State) (c : ChanId) : State :=
  match (s.chan c).pendingPeriod with
  | none => s
  | some p => (s.setChan c { s.chan c with period := p, pendingPeriod := none }).recompute c

/-- An OFF channel is enabled (R90): its first boundary falls at that moment, and its layer decides between IDLE and
HALT. -/
def State.enableChannel (s : State) (c : ChanId) : State :=
  let s := s.setChan c { s.chan c with state := if (s.layer c).halts then .halt else .idle, phase := 0, pulsed := false }
  s.takePeriod c

/-- A channel is disabled (R90). -/
def State.disableChannel (s : State) (c : ChanId) : State :=
  (s.setChan c { s.chan c with state := .off, target := 0, ramped := 0, fold := 0, activeOn := 0, brakeHeld := false,
                               centreCount := 0, phase := 0, pulsed := false }).recompute c

/-- The enable field is written (R90). -/
def State.writeEnable (s : State) (c : ChanId) (enable : Option Bool) : State :=
  match enable with
  | none => s
  | some true => if (s.chan c).state = .off then s.enableChannel c else s
  | some false => if (s.chan c).state = .off then s else s.disableChannel c

/-- The recomputes a SET-CHANNEL causes (R85, R111, R117). -/
def State.afterChannelWrite (s : State) (c : ChanId) (w : ChannelWrite) : State :=
  if w.maxBase.isSome || w.slewBase.isSome || w.limitBase.isSome then s.reformed c
  else if w.minPulse.isSome || w.rounding.isSome then s.recompute c
  else s

/-- The effect of an accepted SET-CHANNEL (R85, R90; order of its parts: log 11). -/
def State.writeChannel (s : State) (c : ChanId) (w : ChannelWrite) : State :=
  (((s.setChan c ((s.chan c).written w)).writeHoldTime c w.holdTime).writeEnable c w.enable).afterChannelWrite c w

/-- The reply fields of SET-CHANNEL (R84, R174). -/
def State.channelReport (s : State) (c : ChanId) : List Byte :=
  let v := s.chan c
  out8 c.val ++ out8 v.state.code ++ outFlag (v.state != .off) ++ out16 v.period ++
    out16 (v.pendingPeriod.getD v.period) ++ out16 v.minPulse ++ out16 v.maxBase ++ out16 v.slewBase ++
    out16 v.limitBase ++ out8 v.gain ++ out16 v.relax ++ out8 v.rounding.code ++ out16 v.divider ++
    out16 (s.hold (groupOf c)).time

/-- SET-CHANNEL, taken (R84). -/
def takeSetChannel (p : List Byte) (s : State) : Answer :=
  match unitNumber (u8 p 0) 4 with
  | none => s.refuse .noSuch [byteAt p 0]
  | some c =>
    match ChannelWrite.ofPayload p with
    | none => s.refuse .badArg [byteAt p 0]
    | some w => { state := s.writeChannel c w, result := .ok, fields := (s.writeChannel c w).channelReport c }

/-! ## DRIVE (R95-R97) -/

/-- A named channel takes its clamped target; from IDLE with a non-zero target it enters RUN with its brake released
(R91, R97). -/
def Channel.driven (c : Channel) (t : Int) : Channel :=
  if c.state = .idle ∧ t ≠ 0 then { c with target := t, state := .run, brakeHeld := false } else { c with target := t }

/-- The targets of the named channels are set (R97). -/
def State.setTargets (s : State) (d : DriveRequest) : State :=
  allChans.foldl (fun s c => if d.names c then s.setChan c ((s.chan c).driven (d.target c)) else s) s

/-- The hold timer of a group is restarted (R98). -/
def State.restartHold (s : State) (g : HoldGroup) : State :=
  s.setHold (groupIndex g) { s.hold g with left := (s.hold g).time }

/-- A DRIVE names a channel of a group. -/
def DriveRequest.namesGroup (d : DriveRequest) (g : HoldGroup) : Bool :=
  allChans.any (fun c => d.names c && groupOf c == g)

/-- The hold timer of each group that contains a named channel is restarted (R97). -/
def State.restartHolds (s : State) (d : DriveRequest) : State :=
  let s := if d.namesGroup .motion then s.restartHold .motion else s
  if d.namesGroup .blade then s.restartHold .blade else s

/-- A named channel is OFF (R96 check 2). -/
def State.driveNamesOff (s : State) (d : DriveRequest) : Bool :=
  allChans.any (fun c => d.names c && (s.chan c).state == .off)

/-- A named channel is in HALT with a clamped target other than 0 (R96 check 3). -/
def State.driveGuarded (s : State) (d : DriveRequest) : Bool :=
  allChans.any (fun c => d.names c && (s.chan c).state == .halt && d.target c != 0)

/-- The effect of an accepted DRIVE (R97). -/
def State.applyDrive (s : State) (d : DriveRequest) : State := (s.setTargets d).restartHolds d

/-- DRIVE, taken (R96, R97). -/
def takeDrive (p : List Byte) (s : State) : Answer :=
  let d := DriveRequest.ofPayload p
  if d.epoch ≠ s.epoch then s.refuse .staleEpoch s.chanStates
  else if s.driveNamesOff d then s.refuse .channelOff s.chanStates
  else if s.driveGuarded d then s.refuse .guarded s.chanStates
  else { state := s.applyDrive d, result := if d.clamps then .clamped else .ok, fields := (s.applyDrive d).chanStates }

/-! ## STOP-ALL and the zeroing causes (R99, R100, R165) -/

/-- Work on every enabled channel. -/
def State.onEnabled (s : State) (work : State → ChanId → State) : State :=
  allChans.foldl (fun s c => if (s.chan c).state = .off then s else work s c) s

/-- STOP-ALL at one channel (R100 steps 1 and 2). -/
def State.stopChannel (brake : Bool) (s : State) (c : ChanId) : State :=
  let s := s.zeroDrive c
  if brake then s.setChan c { s.chan c with brakeHeld := true } else s

/-- The effect of an accepted STOP-ALL (R100). -/
def State.stopAll (s : State) (brake : Bool) : State := (s.onEnabled (State.stopChannel brake)).advanceEpoch

/-- STOP-ALL, taken (R100). -/
def takeStopAll (p : List Byte) (s : State) : Answer :=
  match stopOption p with
  | none => s.refuse .badArg []
  | some brake => { state := s.stopAll brake, result := .ok, fields := [] }

/-! ## Profiles (R108-R111) -/

/-- The overrides of one channel in one profile are written. -/
def State.setOverrides (s : State) (pf : Fin 4) (c : ChanId) (o : Overrides) : State :=
  { s with profiles := Table.put s.profiles pf (Table.put (s.profiles.get pf) c o) }

/-- The effect of an accepted SET-PROFILE (R109). -/
def State.writeProfile (s : State) (pf : Fin 4) (c : ChanId) (o : Overrides) : State :=
  let s := s.setOverrides pf c o
  if pf = s.activeProfile then s.reformed c else s

/-- SET-PROFILE, taken (R109, R175). -/
def takeSetProfile (p : List Byte) (s : State) : Answer :=
  match unitNumber (u8 p 0) 4, unitNumber (u8 p 1) 4 with
  | some pf, some c =>
    match Overrides.ofPayload p with
    | none => s.refuse .badArg [byteAt p 0, byteAt p 1]
    | some o =>
      { state := s.writeProfile pf c o, result := .ok,
        fields := out8 pf.val ++ out8 c.val ++ out16 o.maximum ++ out16 o.slew ++ out16 o.limit ++
          out8 s.activeProfile.val }
  | _, _ => s.refuse .noSuch [byteAt p 0, byteAt p 1]

/-- The effect of an accepted SELECT-PROFILE (R110). -/
def State.selectProfile (s : State) (pf : Fin 4) : State :=
  allChans.foldl State.reformed { s with activeProfile := pf }

/-- SELECT-PROFILE, taken (R110, R175). -/
def takeSelectProfile (p : List Byte) (s : State) : Answer :=
  match unitNumber (u8 p 0) 4 with
  | none => s.refuse .noSuch (out8 s.activeProfile.val)
  | some pf => { state := s.selectProfile pf, result := .ok, fields := out8 pf.val }

/-! ## SNAPSHOT (R103, R175) -/

/-- The fields of a snapshot in the order of the presence bits: whether each is present, and its bytes. -/
def State.snapshotFields (s : State) (c : ChanId) : List (Bool × List Byte) :=
  let v := s.chan c
  let num (n : Nat) : Bool × List Byte := (n != 0, out16 n)
  [(v.target != 0, outS16 v.target), (v.ramped != 0, outS16 v.ramped), num v.fold, num v.mag, num v.nextOn,
   num v.activeOn, num (s.effMax c), num (s.effSlew c), num (s.effLimit c), num v.lastFeedback.toNat,
   num ((s.layer c).capOf.getD 0), (v.direction == .rev, out8 1)]

/-- The presence mask: bit n is set when field n is present. -/
def presenceMask : List (Bool × List Byte) → Nat
  | [] => 0
  | (present, _) :: rest => bitOf present 0 + 2 * presenceMask rest

/-- The snapshot record: channel number, state, presence mask, the present fields without gaps (R175). -/
def State.snapshotReport (s : State) (c : ChanId) : List Byte :=
  out8 c.val ++ out8 (s.chan c).state.code ++ out16 (presenceMask (s.snapshotFields c)) ++
    (s.snapshotFields c).flatMap (fun f => if f.1 then f.2 else [])

/-- SNAPSHOT, taken (R103). -/
def takeSnapshot (p : List Byte) (s : State) : Answer :=
  match unitNumber (u8 p 0) 4 with
  | none => s.refuse .noSuch [byteAt p 0]
  | some c => { state := s, result := .ok, fields := s.snapshotReport c }

/-! ## Hold timers and the ramp tick (R98, R99, R106) -/

/-- A channel has T or R other than 0. -/
def Channel.moving (c : Channel) : Bool := c.target != 0 || c.ramped != 0

/-- A channel of the group has T or R other than 0 (R98). -/
def State.groupMoving (s : State) (g : HoldGroup) : Bool :=
  allChans.any (fun c => groupOf c == g && (s.chan c).moving)

/-- The hold timer of a group falls by one at this tick, and whether it reaches 0 by this fall (R98). -/
def Hold.falls (h : Hold) (moving : Bool) : Bool := moving && h.left != 0
def Hold.expires (h : Hold) (moving : Bool) : Bool := moving && h.left == 1

/-- A counted tick at one hold timer. -/
def State.countHold (s : State) (g : HoldGroup) (moving : Bool) : State :=
  if (s.hold g).falls moving then s.setHold (groupIndex g) { s.hold g with left := (s.hold g).left - 1 } else s

/-- A MOTION expiry zeroes T on each enabled channel of its group; R is left to the ramp (R99). -/
def State.stopMotion (s : State) : State :=
  s.onEnabled (fun s c => if groupOf c = .motion then s.setChan c { s.chan c with target := 0 } else s)

/-- A BLADE expiry zeroes T and R of an enabled PC2 and sets its brake-held flag (R99). -/
def State.stopBlade (s : State) : State :=
  if (s.chan 2).state = .off then s
  else
    let s := s.zeroDrive 2
    s.setChan 2 { s.chan 2 with brakeHeld := true }

/-- A hold expiry: the group stops, the epoch advances, HOLD-EXPIRED is posted (R99). -/
def State.expireHold (s : State) (g : HoldGroup) : State :=
  let s := match g with
    | .motion => s.stopMotion
    | .blade => s.stopBlade
  s.advanceEpoch.post .holdExpired (groupIndex g).val (BitVec.ofNat 16 (groupIndex g).val)

/-- The hold timers of both groups count a tick (R98). -/
def State.countHolds (s : State) (motion blade : Bool) : State :=
  (s.countHold .motion motion).countHold .blade blade

/-- The expiries of one tick. When both groups expire, either may be taken first (R140): a free value says which
(log 4). -/
def State.expireHolds (s : State) (motion blade : Bool) : State :=
  match motion, blade with
  | false, false => s
  | true, false => s.expireHold .motion
  | false, true => s.expireHold .blade
  | true, true =>
    let t := { s with drawn := s.drawn + 1 }
    if Config.orderAtOneMoment s.drawn % 2 = 0 then (t.expireHold .motion).expireHold .blade
    else (t.expireHold .blade).expireHold .motion

/-- A ramp tick (R106): the work of every channel, then the hold timers, which look at the T and R the channels held
when the tick arrived (R98), then the expiries (R99). -/
def State.rampTick (s : State) : State :=
  let motion := s.groupMoving .motion
  let blade := s.groupMoving .blade
  ((allChans.foldl State.tickChannel s).countHolds motion blade).expireHolds
    ((s.hold .motion).expires motion) ((s.hold .blade).expires blade)

/-- The counted tick at which a group's hold timer reaches 0, with what the expiry does (R98, R99). -/
def State.holdRunsOut (s : State) (g : HoldGroup) : State :=
  if (s.hold g).expires (s.groupMoving g) then (s.countHold g true).expireHold g else s

/-! ## The period boundary (R87, R93) -/

/-- The other direction. -/
def Direction.flip : Direction → Direction
  | .fwd => .rev
  | .rev => .fwd

/-- The decision of a DWELL boundary (R93). -/
def Channel.dwellDecision (c : Channel) : Channel :=
  if signDiffers c.ramped c.direction then
    if c.pulsed then c else { c with state := .run, direction := c.direction.flip }
  else { c with state := .run }

/-- The decision is made in DWELL only (R87 step 2). -/
def Channel.decideDwell (c : Channel) : Channel := if c.state = .dwell then c.dwellDecision else c

/-- The active on-ticks are loaded and a new period begins (R87 step 3): 0 in DWELL, else the next on-ticks. -/
def Channel.load (c : Channel) : Channel :=
  let n := if c.state = .dwell then 0 else c.nextOn
  { c with activeOn := n, pulsed := n != 0, phase := 0 }

/-- A period boundary (R87). An OFF channel has none. -/
def State.boundary (s : State) (c : ChanId) : State :=
  if (s.chan c).state = .off then s
  else
    let s := s.takePeriod c
    s.setChan c (s.chan c).decideDwell.load

/-- RAMP_TICK (R106). -/
def execRampTick (s : State) : Answered := s.live State.rampTick

/-- HOLD_EXPIRY (R99, log 8). -/
def execHoldExpiry (g : HoldGroup) (s : State) : Answered := s.live (fun s => s.holdRunsOut g)

/-- PERIOD_BOUNDARY (R87). -/
def execPeriodBoundary (c : ChanId) (s : State) : Answered := s.live (fun s => s.boundary c)

end Sys2Proof.Machine
end

