-- ==== Sys2Proof/Machine/Resets.lean ====
section
/-! DEFINITION. The three resets: power-on, a pin reset on NRST, RESTART (R24, R26, R42, R66, R82, R105, R124, R142,
R154, R168, R180). -/

namespace Sys2Proof.Machine

/-- A decoder after a reset: the levels on its pins are its last line pair (R154). -/
def Decoder.atReset (p : LinePair) : Decoder := { last := p, countError := false }

/-- The part after a reset: every block at its reset values, the READY record with its cause in the event queue, and the
levels on the pins and the phase of the ramp ticks as they are (R154, R168, R180). -/
def State.resetBy (s : State) (cause : ReadyCause) (rampTicks : Nat) : State :=
  { State.reset with
      clock := { stamp := 0, subTicks := 0, rampTicks := rampTicks }
      pins := s.pins
      decoders := s.pins.enc.map Decoder.atReset
      out := { State.reset.out with events := [EventRecord.readyRecord cause] }
      pending := s.pending
      drawn := s.drawn }

/-- The level of NRST is written. -/
def State.setNrst (s : State) (level : Bool) : State := { s with pins := { s.pins with nrst := level } }

/-- RESTART's reset (R168): the ramp ticks keep their phase (R180). -/
def State.restartReset (s : State) : State := s.resetBy .restart s.clock.rampTicks

/-- NRST goes low (R168). The ramp ticks keep their phase (R180). -/
def State.assertNrst (s : State) : State :=
  if s.pins.nrst then (s.setNrst false).resetBy .pin s.clock.rampTicks else s

/-- NRST goes high (R168): the part starts from the values of the pin reset, with the line levels of this moment. -/
def State.releaseNrst (s : State) : State :=
  if s.pins.nrst then s else (s.setNrst true).resetBy .pin s.clock.rampTicks

/-- POWER_ON (R168). The phase of the ramp ticks begins with the power (R180). -/
def execPowerOn (s : State) : Answered := .next (s.resetBy .power 0)

/-- NRST_ASSERT (R168). -/
def execNrstAssert (s : State) : Answered := .next s.assertNrst

/-- NRST_RELEASE (R168). -/
def execNrstRelease (s : State) : Answered := .next s.releaseNrst

end Sys2Proof.Machine
end

