-- ==== Sys2Proof/Machine/Conversion.lean ====
section
/-! DEFINITION. The converter and the moments of the anchors: element completion, yield, complete rounds, the window
check, cancelled completions, the wait limit, midpoints and cadences (R27-R29, R54-R61, R75-R81). -/

namespace Sys2Proof.Machine

/-- The feedback delivery of a complete round (R75). The element index is below the element count (R8). -/
def State.deliverRound (s : State) (dest : Option Feedback) (values : List Count) : State :=
  match dest with
  | none => s
  | some f => s.deliver f.channel (values.getD f.element 0)

/-- A value stands inside a window (R80). -/
def Window.contains (w : Window) (value : Count) : Bool :=
  decide (w.low ≤ value.toNat) && decide (value.toNat ≤ w.high)

/-- The window check of a complete round (R80, R81). -/
def State.windowCheck (s : State) (x : SlotId) (win : Option Window) (values : List Count) : State :=
  match win with
  | none => s
  | some w =>
    let value := values.getD w.element 0
    if w.contains value then s
    else
      let s := s.post .window x.val (value.setWidth 16)
      if w.trip then s.internalCondition windowSource else s

/-- A complete round is finished (R58): ring entry, feedback delivery, window check, then the slot closes the round and
takes its completion path, and the converter returns to IDLE. -/
def State.completeRound (s : State) (x : SlotId) (values : List Count) : State :=
  let v := s.slot x
  let s := s.writeRound v.defn.ring
    { slot := x, status := .complete, number := v.sequence, roundTime := v.roundTime, values := values }
  let s := s.deliverRound v.defn.feedback values
  let s := s.windowCheck x v.defn.window values
  let s := s.finishRound x
  { s with conv := none }.settle

/-- A slot of a strictly more urgent level is READY (R55). -/
def State.moreUrgentReady (s : State) (l : Fin 8) : Bool :=
  allLevels.any (fun m => decide (m < l) && !(s.level m).isEmpty)

/-- The converting slot yields: it enters READY at the head of its level, and dispatch is made (R56). -/
def State.yieldSlot (s : State) (x : SlotId) : State :=
  let s := (s.setSlot x { s.slot x with state := .ready }).placeReady x .head
  { s with conv := none }.settle

/-- A completion that finds CANCEL set: the value and the round are discarded (R17). -/
def State.cancelledCompletion (s : State) (x : SlotId) : State :=
  let s := s.setSlot x (s.slot x).atRest
  { s with conv := none }.settle

/-- An element completes without the CANCEL flag (R54, R55, R58). -/
def State.elementDone (s : State) (x : SlotId) (value : Count) : State :=
  let v := s.slot x
  if v.defn.elements.length ≤ v.cursor + 1 then s.completeRound x (v.partials ++ [value])
  else
    let s := s.setSlot x { v with cursor := v.cursor + 1, partials := v.partials ++ [value] }
    if v.defn.atomic = false ∧ s.moreUrgentReady v.defn.level then s.yieldSlot x else s.startElement x

/-- The conversion in progress completes (R54). -/
def State.completeConversion (s : State) (value : Count) : State :=
  match s.conv with
  | none => s
  | some cv => if (s.slot cv.slot).cancel then s.cancelledCompletion cv.slot else s.elementDone cv.slot value

/-- A slot's wait-limit timer runs: READY, cursor 0, not yet LATE, wait limit not 0 (R60, R61). -/
def Slot.waitRuns (v : Slot) : Bool := v.state == .ready && v.cursor == 0 && !v.late && v.defn.waitLimit != 0

/-- A slot's wait-limit timer has expired (R60). -/
def State.waitOver (s : State) (x : SlotId) : Bool :=
  (s.slot x).waitRuns && reached (after (s.slot x).readySince (s.slot x).defn.waitLimit) s.now

/-- A slot's wait limit expires: its LATE flag is set in place (R61). -/
def State.expireWait (s : State) (x : SlotId) : State :=
  if s.waitOver x then s.setSlot x { s.slot x with late := true } else s

/-- A midpoint of an enabled channel would bring the centre count to the divider (R27). -/
def Channel.centreDue (c : Channel) : Bool := decide (c.divider ≤ c.centreCount + 1)

/-- The midpoint at which the centre count reaches the divider: it returns to 0 and the centre anchor fires (R27). -/
def State.fireCentre (s : State) (c : ChanId) : State :=
  (s.setChan c { s.chan c with centreCount := 0 }).fire (centreAnchor c)

/-- A period midpoint (R27). An OFF channel has none (R28). -/
def State.midpoint (s : State) (c : ChanId) : State :=
  if (s.chan c).state = .off then s
  else if (s.chan c).centreDue then s.fireCentre c
  else s.setChan c { s.chan c with centreCount := (s.chan c).centreCount + 1 }

/-- A running cadence anchor's due time is reached (R29). -/
def State.cadenceDue (s : State) (k : Fin 4) : Bool :=
  (s.cadences.get k).period != 0 && reached (s.cadences.get k).due s.now

/-- A cadence anchor fires and its due time advances by one period (R29). -/
def State.fireCadence (s : State) (k : Fin 4) : State :=
  if s.cadenceDue k then
    (s.setCadence k { s.cadences.get k with due := after (s.cadences.get k).due (s.cadences.get k).period }).fire
      (cadenceAnchor k)
  else s

/-- CONVERSION_COMPLETE (R54). -/
def execConversionComplete (value : Count) (s : State) : Answered := s.live (fun s => s.completeConversion value)

/-- WAIT_LIMIT_EXPIRY (R61). -/
def execWaitLimitExpiry (x : SlotId) (s : State) : Answered := s.live (fun s => s.expireWait x)

/-- PERIOD_MIDPOINT (R27). -/
def execPeriodMidpoint (c : ChanId) (s : State) : Answered := s.live (fun s => s.midpoint c)

/-- CENTRE_ANCHOR_FIRE (R27): a midpoint, taken only where it brings the centre count to the divider (log 8). -/
def execCentreAnchorFire (c : ChanId) (s : State) : Answered :=
  s.live (fun s => if (s.chan c).state ≠ .off ∧ (s.chan c).centreDue then s.fireCentre c else s)

/-- CADENCE_ANCHOR_FIRE (R29). -/
def execCadenceAnchorFire (k : Fin 4) (s : State) : Answered := s.live (fun s => s.fireCadence k)

end Sys2Proof.Machine
end

