-- ==== Sys2Proof/Machine/Slots.lean ====
section
/-! DEFINITION. The acquisition table's four requests: DEFINE-ACQ, ARM-ACQ, CANCEL-ACQ, RELEASE-ACQ (R8, R9, R15 to
R19). -/

namespace Sys2Proof.Machine

/-- The reply fields of a slot request (R19, R176): slot number and slot state. -/
def slotReport (x : SlotId) (st : SlotState) : List Byte := out8 x.val ++ out8 st.code

/-- A slot is in WAITING, READY or CONVERTING (R8 check 2). -/
def SlotState.inUse : SlotState → Bool
  | .free => false
  | .idle => false
  | .waiting => true
  | .ready => true
  | .converting => true

/-- The slot that an accepted DEFINE-ACQ leaves (R9). -/
def Slot.defined (d : Definition) : Slot := { Slot.free with defn := d, state := .idle }

/-- DEFINE-ACQ, taken (R8, R9). -/
def takeDefineAcq (p : List Byte) (s : State) : Answer :=
  match unitNumber (u8 p 0) 32 with
  | none => s.refuse .noSuch [byteAt p 0]
  | some x =>
    if (s.slot x).state.inUse then s.refuse .busy (slotReport x (s.slot x).state)
    else
      match Definition.ofPayload p with
      | none => s.refuse .badArg (slotReport x (s.slot x).state)
      | some d =>
        { state := s.setSlot x (Slot.defined d), result := .ok, fields := slotReport x (s.slot x).state }

/-- The rounds an accepted ARM-ACQ loads (R12). -/
def Definition.countedRounds (d : Definition) : Nat := if d.repeating then d.rounds else 0

/-- Step 1 of an accepted ARM-ACQ (R15). -/
def Slot.loaded (v : Slot) : Slot :=
  { v with remaining := v.defn.countedRounds, late := false, cancel := false, cursor := 0, partials := [] }

/-- Step 2 of an accepted ARM-ACQ (R15): READY at the tail, or armed against the anchor. -/
def State.placeArmed (s : State) (x : SlotId) : State :=
  match (s.slot x).defn.anchor with
  | none => s.enterReady x .tail
  | some a => s.arm x a

/-- An accepted ARM-ACQ, before the dispatch that may follow (R15). -/
def State.armSlot (s : State) (x : SlotId) : State := (s.setSlot x (s.slot x).loaded).placeArmed x

/-- ARM-ACQ, taken (R15). The reply reports the state the arming produced; dispatch follows (R50), within the request,
which is taken whole (R158; log 34). -/
def takeArmAcq (p : List Byte) (s : State) : Answer :=
  match unitNumber (u8 p 0) 32 with
  | none => s.refuse .noSuch [byteAt p 0]
  | some x =>
    if (s.slot x).state = .idle then
      { state := (s.armSlot x).dispatch, result := .ok, fields := slotReport x ((s.armSlot x).slot x).state }
    else s.refuse .busy (slotReport x (s.slot x).state)

/-- A WAITING slot is removed from its anchor's wait list (R16, R33). -/
def State.leaveWait (s : State) (x : SlotId) : State :=
  match (s.slot x).defn.anchor with
  | none => s
  | some a => s.setAnchor a { s.anchor a with waitList := (s.anchor a).waitList.erase x }

/-- A READY slot is removed from its level list (R16, R45). -/
def State.leaveReady (s : State) (x : SlotId) : State :=
  s.setLevel (s.slot x).defn.level ((s.level (s.slot x).defn.level).erase x)

/-- The effect of a CANCEL-ACQ on a slot that is not FREE (R16, R17). With the converter IDLE, as at the moment of a
firing or a yield, dispatch follows the removal of a READY slot (R41, R50, R59; log 30). -/
def State.cancelSlot (s : State) (x : SlotId) : State :=
  match (s.slot x).state with
  | .waiting => (s.leaveWait x).rest x
  | .ready => ((s.leaveReady x).rest x).dispatch
  | .converting => s.setSlot x { s.slot x with cancel := true }
  | _ => s

/-- CANCEL-ACQ, taken (R16, R17). -/
def takeCancelAcq (p : List Byte) (s : State) : Answer :=
  match unitNumber (u8 p 0) 32 with
  | none => s.refuse .noSuch [byteAt p 0]
  | some x =>
    if (s.slot x).state = .free then s.refuse .busy (slotReport x .free)
    else { state := s.cancelSlot x, result := .ok, fields := slotReport x (s.slot x).state }

/-- RELEASE-ACQ, taken (R18). -/
def takeReleaseAcq (p : List Byte) (s : State) : Answer :=
  match unitNumber (u8 p 0) 32 with
  | none => s.refuse .noSuch [byteAt p 0]
  | some x =>
    if (s.slot x).state = .idle then
      { state := s.setSlot x Slot.free, result := .ok, fields := slotReport x .idle }
    else s.refuse .busy (slotReport x (s.slot x).state)

end Sys2Proof.Machine
end

