-- ==== Sys2Proof/Machine/Link.lean ====
section
/-! DEFINITION. The link controller: the requests of its own (PING, STATUS, RESTART), the checks before a block is
reached, taking requests, the receiver, the link break, the end of a transmitted frame, and the meanings of the request
rows (chapter 9). -/

namespace Sys2Proof.Machine

/-! ## PING, STATUS and RESTART (R166-R168, R174) -/

/-- PING, taken (R166). -/
def takePing (_p : List Byte) (s : State) : Answer :=
  { state := s, result := .ok, fields := Config.familyCode :: Config.revision :: outStamp s.now }

/-- The state and the flags of each channel, as STATUS reports them (R174). -/
def State.channelStatus (s : State) : List Byte :=
  allChans.flatMap (fun c => out8 (s.chan c).state.code ++ [(s.chan c).flagByte])

/-- The reply fields of STATUS (R167, R174). -/
def State.statusReport (s : State) : List Byte :=
  outFlag s.conv.isSome ++ allLevels.flatMap (fun l => out8 (s.level l).length) ++
    allSources.flatMap (fun n => out8 (s.source n).state.code) ++ out8 s.activeProfile.val ++ s.channelStatus ++
    [s.counterFlagByte] ++ [s.linkFlagByte]

/-- STATUS, taken (R167): the flags are captured, then cleared. -/
def takeStatus (_p : List Byte) (s : State) : Answer :=
  { state := s.clearReportedFlags, result := .ok, fields := s.statusReport }

/-- From now on no request is taken, until the reset (R158, R168). -/
def State.awaitRestart (s : State) : State := { s with link := { s.link with restartWait := true } }

/-- RESTART, taken (R168). -/
def takeRestart (_p : List Byte) (s : State) : Answer := { state := s.awaitRestart, result := .ok, fields := [] }

/-! ## The checks of the link controller (R159, R173) -/

/-- The twenty request kinds (R173). -/
inductive RequestKind where
  | ping
  | status
  | restart
  | setChannel
  | drive
  | stopAll
  | setProfile
  | selectProfile
  | snapshot
  | defineAcq
  | armAcq
  | cancelAcq
  | releaseAcq
  | setAnchor
  | setRing
  | readRing
  | setGuard
  | clearTrip
  | setCounter
  | readCounters
  deriving DecidableEq, Repr

/-- The kind byte of a request (R173). -/
def RequestKind.code : RequestKind → Byte
  | .ping => 0x01
  | .status => 0x02
  | .restart => 0x03
  | .setChannel => 0x10
  | .drive => 0x11
  | .stopAll => 0x12
  | .setProfile => 0x13
  | .selectProfile => 0x14
  | .snapshot => 0x15
  | .defineAcq => 0x20
  | .armAcq => 0x21
  | .cancelAcq => 0x22
  | .releaseAcq => 0x23
  | .setAnchor => 0x24
  | .setRing => 0x25
  | .readRing => 0x26
  | .setGuard => 0x30
  | .clearTrip => 0x31
  | .setCounter => 0x40
  | .readCounters => 0x41

/-- The request kind a kind byte names (R173). -/
def RequestKind.ofCode (b : Byte) : Option RequestKind :=
  match b.toNat with
  | 0x01 => some .ping
  | 0x02 => some .status
  | 0x03 => some .restart
  | 0x10 => some .setChannel
  | 0x11 => some .drive
  | 0x12 => some .stopAll
  | 0x13 => some .setProfile
  | 0x14 => some .selectProfile
  | 0x15 => some .snapshot
  | 0x20 => some .defineAcq
  | 0x21 => some .armAcq
  | 0x22 => some .cancelAcq
  | 0x23 => some .releaseAcq
  | 0x24 => some .setAnchor
  | 0x25 => some .setRing
  | 0x26 => some .readRing
  | 0x30 => some .setGuard
  | 0x31 => some .clearTrip
  | 0x40 => some .setCounter
  | 0x41 => some .readCounters
  | _ => none

/-- The one payload length of a kind, in bytes (R173). -/
def RequestKind.payloadLength : RequestKind → Nat
  | .ping => 0
  | .status => 0
  | .restart => 0
  | .setChannel => 22
  | .drive => 10
  | .stopAll => 1
  | .setProfile => 8
  | .selectProfile => 1
  | .snapshot => 1
  | .defineAcq => 25
  | .armAcq => 1
  | .cancelAcq => 1
  | .releaseAcq => 1
  | .setAnchor => 10
  | .setRing => 3
  | .readRing => 2
  | .setGuard => 7
  | .clearTrip => 1
  | .setCounter => 12
  | .readCounters => 0

/-- The owning block's checks and effect (R159). -/
def RequestKind.take : RequestKind → List Byte → State → Answer
  | .ping => takePing
  | .status => takeStatus
  | .restart => takeRestart
  | .setChannel => takeSetChannel
  | .drive => takeDrive
  | .stopAll => takeStopAll
  | .setProfile => takeSetProfile
  | .selectProfile => takeSelectProfile
  | .snapshot => takeSnapshot
  | .defineAcq => takeDefineAcq
  | .armAcq => takeArmAcq
  | .cancelAcq => takeCancelAcq
  | .releaseAcq => takeReleaseAcq
  | .setAnchor => takeSetAnchor
  | .setRing => takeSetRing
  | .readRing => takeReadRing
  | .setGuard => takeSetGuard
  | .clearTrip => takeClearTrip
  | .setCounter => takeSetCounter
  | .readCounters => takeReadCounters

/-- The link controller's checks, then the owning block (R159). -/
def Request.answer (r : Request) (s : State) : Answer :=
  match RequestKind.ofCode r.kind with
  | none => s.refuse .unknownKind []
  | some k => if r.payload.length = k.payloadLength then k.take r.payload s else s.refuse .badLength []

/-- The reply to a request (R159): its tag, its kind plus 0x80, and the result, the epoch after the effect and the
reply fields. -/
def Request.replyTo (r : Request) (a : Answer) : Reply :=
  { tag := r.tag, kind := r.kind + 0x80, payload := a.result.code :: a.state.epoch :: a.fields }

/-! ## Taking requests (R158) -/

/-- A request is taken (R158, R160). -/
def State.take (s : State) (r : Request) : State := (r.answer s).state.pushReply (r.replyTo (r.answer s))

/-- The request queue is written. -/
def State.setRequests (s : State) (l : List Request) : State := { s with link := { s.link with requests := l } }

/-- Requests are taken, oldest first, while the conditions hold (R158). The bound is the number of requests. -/
def State.takeChain : Nat → State → State
  | 0, s => s
  | n + 1, s =>
    match s.link.requests with
    | [] => s
    | r :: rest => if s.mayTake then State.takeChain n ((s.setRequests rest).take r) else s

/-- Every request that can be taken now is taken (R158). -/
def State.takeAll (s : State) : State := State.takeChain s.link.requests.length s

/-! ## The receiver (R155-R157) -/

/-- The receiver's state is written. -/
def State.setReceiver (s : State) (m : RxMode) : State := { s with link := { s.link with mode := m } }

/-- RXD stands at the high level and has been seen high (R164, R179). -/
def State.seeHigh (s : State) : State :=
  { s with pins := { s.pins with rxd := true }, link := { s.link with seenHigh := true } }

/-- A frame is dropped: the receiver returns to HUNT and the link-error flag is set (R156, R157). -/
def State.dropFrame (s : State) : State := (s.setReceiver .hunt).setLinkError

/-- What is received on RXD is received from the high level (R155). A line that a LINK_BREAK has left low, or that has
been low since a reset, brings nothing until it returns high (R164, R179). -/
def State.hear (s : State) (work : State → State) : State := if s.pins.rxd then work s.seeHigh else s

/-- A good frame reaches the request queue (R156): tag 0 and a full queue drop it; otherwise it joins as the newest
request. -/
def State.join (s : State) (r : Request) (taking : State → State) : State :=
  if r.tag = 0 ∨ 248 < r.payload.length ∨ 4 ≤ s.link.requests.length then s.setLinkError
  else taking (s.setRequests (s.link.requests ++ [r]))

/-- A request that joins is taken at once if the conditions hold (R158). -/
def State.enqueue (s : State) (r : Request) : State := s.join r State.takeAll

/-- A request row: the good frame with this request arrives and the request is taken (log 7). -/
def State.arrive (s : State) (r : Request) : State := s.hear (fun s => s.enqueue r)

/-- The checksum byte completes a frame (R156). In every case the receiver returns to HUNT. A link break of the same
moment finds the request in the queue (R169; log 35). -/
def State.completeFrame (s : State) (bytes : List Byte) : State :=
  match goodFrame bytes with
  | none => s.dropFrame
  | some r => if s.breakNext then (s.setReceiver .hunt).join r id else (s.setReceiver .hunt).enqueue r

/-- The receiver holds these bytes of a frame, the newest included (R156). -/
def State.frameByte (s : State) (bytes : List Byte) : State :=
  match bytes with
  | [] => s.setReceiver (.frame [])
  | len :: _ =>
    if lengthFits len = false then s.dropFrame
    else if bytes.length = len.toNat + 2 then s.completeFrame bytes
    else s.setReceiver (.frame bytes)

/-- The receiver takes a byte (R156). -/
def State.takeByte (s : State) (b : Byte) : State :=
  match s.link.mode with
  | .hunt => if b = startByte then s.setReceiver (.frame []) else s
  | .frame taken => s.frameByte (taken ++ [b])

/-- The gap inside a frame passes 2 ms (R156, R157). In HUNT the gap is not timed. -/
def State.gapTimeout (s : State) : State :=
  match s.link.mode with
  | .hunt => s
  | .frame _ => s.dropFrame

/-! ## The link break (R164, R165) -/

/-- The line goes low for good: a new break needs a high level first (R164). -/
def State.lineLow (s : State) : State :=
  { s with pins := { s.pins with rxd := false }, link := { s.link with seenHigh := false } }

/-- Steps 1 and 2 of a link break: the frame in progress and the requests are discarded (R165). -/
def State.discardInput (s : State) : State := { s with link := { s.link with mode := .hunt, requests := [] } }

/-- The work of a link break (R165). -/
def State.breakLink (s : State) : State :=
  ((s.discardInput.onEnabled State.zeroDrive).advanceEpoch).post .linkBreak 0
    (BitVec.ofNat 16 s.link.requests.length)

/-- RXD has been low for 20 µs (R164). There is no break before RXD has been seen high (R179). -/
def State.rxdLow20 (s : State) : State := if s.link.seenHigh then s.breakLink.lineLow else s.lineLow

/-! ## The end of a transmitted frame (R163, R168) -/

/-- The frame in transmission is the OK reply of the RESTART that waits (R168). -/
def State.restartReplyEnds (s : State) : Bool :=
  s.link.restartWait &&
    (match s.out.sending with
     | some (.reply r) => r.kind == RequestKind.restart.code + 0x80 && r.payload.head? == some Result.ok.code
     | _ => false)

/-- The transmitter comes free and chooses; a departed reply makes room for waiting requests (R158, R163). -/
def State.transmitterFree (s : State) : State :=
  s.freeTransmitter.takeAll

/-- The frame in transmission ends (R163, R168). -/
def State.frameEnds (s : State) : State :=
  match s.out.sending with
  | none => s
  | some _ => if s.restartReplyEnds then s.restartReset else s.transmitterFree

/-! ## The rows of the receive line -/

/-- FRAME_RECEIVED (R156). -/
def execFrameReceived (bytes : List Byte) (s : State) : Answered := s.live (fun s => s.hear (fun s => s.completeFrame bytes))

/-- INTER_BYTE_GAP_TIMEOUT (R156). -/
def execInterByteGapTimeout (s : State) : Answered := s.live State.gapTimeout

/-- FRAMING_ERROR (R155, R157): in FRAME the frame is dropped; in HUNT the byte is discarded and the flag is set. -/
def execFramingError (s : State) : Answered := s.live (fun s => s.hear State.dropFrame)

/-- The level of RXD is written. -/
def State.setRxd (s : State) (level : Bool) : State := { s with pins := { s.pins with rxd := level } }

/-- LINK_BREAK (R164, R165). A part held in reset detects none (R168). -/
def execLinkBreak (s : State) : Answered := .next (if s.pins.nrst then s.rxdLow20 else s.setRxd false)

/-- BYTE_RECEIVED (R156). -/
def execByteReceived (b : Byte) (s : State) : Answered := s.live (fun s => s.hear (fun s => s.takeByte b))

/-- RXD_RETURNS_HIGH (R164, R179). -/
def execRxdReturnsHigh (s : State) : Answered := .next (if s.pins.nrst then s.seeHigh else s.setRxd true)

/-- FRAME_TRANSMITTED (R163). -/
def execFrameTransmitted (s : State) : Answered := s.live State.frameEnds

/-- RESTART_RESET (R168): the moment at which the RESTART reply ends (log 8). -/
def execRestartReset (s : State) : Answered := s.live (fun s => if s.restartReplyEnds then s.restartReset else s)

/-! ## The request rows: a good frame of that kind arrives (log 7) -/

/-- PING (R166). -/
def execPing (tag : Byte) (p : List Byte) (s : State) : Answered :=
  s.live (fun s => s.arrive { tag, kind := RequestKind.ping.code, payload := p })

/-- STATUS (R167). -/
def execStatus (tag : Byte) (p : List Byte) (s : State) : Answered :=
  s.live (fun s => s.arrive { tag, kind := RequestKind.status.code, payload := p })

/-- RESTART (R168). -/
def execRestart (tag : Byte) (p : List Byte) (s : State) : Answered :=
  s.live (fun s => s.arrive { tag, kind := RequestKind.restart.code, payload := p })

/-- SET-CHANNEL (R84). -/
def execSetChannel (tag : Byte) (p : List Byte) (s : State) : Answered :=
  s.live (fun s => s.arrive { tag, kind := RequestKind.setChannel.code, payload := p })

/-- DRIVE (R96). -/
def execDrive (tag : Byte) (p : List Byte) (s : State) : Answered :=
  s.live (fun s => s.arrive { tag, kind := RequestKind.drive.code, payload := p })

/-- STOP-ALL (R100). -/
def execStopAll (tag : Byte) (p : List Byte) (s : State) : Answered :=
  s.live (fun s => s.arrive { tag, kind := RequestKind.stopAll.code, payload := p })

/-- SET-PROFILE (R109). -/
def execSetProfile (tag : Byte) (p : List Byte) (s : State) : Answered :=
  s.live (fun s => s.arrive { tag, kind := RequestKind.setProfile.code, payload := p })

/-- SELECT-PROFILE (R110). -/
def execSelectProfile (tag : Byte) (p : List Byte) (s : State) : Answered :=
  s.live (fun s => s.arrive { tag, kind := RequestKind.selectProfile.code, payload := p })

/-- SNAPSHOT (R103). -/
def execSnapshot (tag : Byte) (p : List Byte) (s : State) : Answered :=
  s.live (fun s => s.arrive { tag, kind := RequestKind.snapshot.code, payload := p })

/-- DEFINE-ACQ (R8). -/
def execDefineAcq (tag : Byte) (p : List Byte) (s : State) : Answered :=
  s.live (fun s => s.arrive { tag, kind := RequestKind.defineAcq.code, payload := p })

/-- ARM-ACQ (R15). -/
def execArmAcq (tag : Byte) (p : List Byte) (s : State) : Answered :=
  s.live (fun s => s.arrive { tag, kind := RequestKind.armAcq.code, payload := p })

/-- CANCEL-ACQ (R16). -/
def execCancelAcq (tag : Byte) (p : List Byte) (s : State) : Answered :=
  s.live (fun s => s.arrive { tag, kind := RequestKind.cancelAcq.code, payload := p })

/-- RELEASE-ACQ (R18). -/
def execReleaseAcq (tag : Byte) (p : List Byte) (s : State) : Answered :=
  s.live (fun s => s.arrive { tag, kind := RequestKind.releaseAcq.code, payload := p })

/-- SET-ANCHOR (R40). -/
def execSetAnchor (tag : Byte) (p : List Byte) (s : State) : Answered :=
  s.live (fun s => s.arrive { tag, kind := RequestKind.setAnchor.code, payload := p })

/-- SET-RING (R72). -/
def execSetRing (tag : Byte) (p : List Byte) (s : State) : Answered :=
  s.live (fun s => s.arrive { tag, kind := RequestKind.setRing.code, payload := p })

/-- READ-RING (R73). -/
def execReadRing (tag : Byte) (p : List Byte) (s : State) : Answered :=
  s.live (fun s => s.arrive { tag, kind := RequestKind.readRing.code, payload := p })

/-- SET-GUARD (R127). -/
def execSetGuard (tag : Byte) (p : List Byte) (s : State) : Answered :=
  s.live (fun s => s.arrive { tag, kind := RequestKind.setGuard.code, payload := p })

/-- CLEAR-TRIP (R137). -/
def execClearTrip (tag : Byte) (p : List Byte) (s : State) : Answered :=
  s.live (fun s => s.arrive { tag, kind := RequestKind.clearTrip.code, payload := p })

/-- SET-COUNTER (R151). -/
def execSetCounter (tag : Byte) (p : List Byte) (s : State) : Answered :=
  s.live (fun s => s.arrive { tag, kind := RequestKind.setCounter.code, payload := p })

/-- READ-COUNTERS (R152). -/
def execReadCounters (tag : Byte) (p : List Byte) (s : State) : Answered :=
  s.live (fun s => s.arrive { tag, kind := RequestKind.readCounters.code, payload := p })

/-- UNKNOWN-KIND (R159): a frame whose kind names no request. A kind that names one is that request's row. -/
def execUnknownKind (tag kind : Byte) (p : List Byte) (s : State) : Answered :=
  s.live (fun s => s.arrive { tag, kind, payload := p })

end Sys2Proof.Machine
end

