-- ==== Sys2Proof/Machine/Outputs.lean ====
section
/-! DEFINITION. The output pins as functions of the state: PWM, DIR and BRK of each bridge (R86, R88), and TXD, the bytes
of its frame and its level at each tick (R155, R163, R171, R172). -/

namespace Sys2Proof.Machine

/-! ## The bridges -/

/-- The pulse of a period is on at the phase where the pulse timer stands (R86). -/
def Channel.pulseOn (c : Channel) : Bool :=
  decide ((c.period - c.activeOn) / 2 ≤ c.phase) && decide (c.phase < (c.period - c.activeOn) / 2 + c.activeOn)

/-- PWMn (R88). -/
def State.pwm (s : State) (c : ChanId) : Bool :=
  match (s.chan c).state with
  | .run => (s.chan c).pulseOn
  | .dwell => (s.chan c).pulseOn
  | _ => false

/-- DIRn (R88). -/
def State.dir (s : State) (c : ChanId) : Direction := (s.chan c).direction

/-- BRKn (R88). -/
def State.brk (s : State) (c : ChanId) : Bool :=
  match (s.chan c).state with
  | .idle => (s.chan c).brakeHeld
  | .halt => s.layer c == .brake || (s.chan c).brakeHeld
  | _ => false

/-! ## Frames on TXD -/

/-- The code of an event kind (R172). -/
def EventKind.code : EventKind → Nat
  | .ready => 1
  | .guardTrip => 2
  | .guardReleased => 3
  | .holdExpired => 4
  | .stall => 5
  | .tally => 6
  | .limit => 7
  | .acqMissed => 8
  | .acqDone => 9
  | .window => 10
  | .ringWatermark => 11
  | .linkBreak => 12
  | .countError => 13

/-- The payload of an event frame (R172). -/
def EventRecord.bytes (e : EventRecord) : List Byte :=
  out8 e.kind.code ++ out8 e.source ++ out8 e.count ++ outFlag e.overflow ++ [e.epoch] ++ outStamp e.stamp ++
    out16 e.detail.toNat

/-- The kind byte of an event frame (R172). -/
def eventFrameKind : Byte := 0x7E

/-- The tag, the kind and the payload of a frame in transmission (R159, R172). -/
def TxFrame.body : TxFrame → List Byte
  | .reply r => r.tag :: r.kind :: r.payload
  | .event e => 0 :: eventFrameKind :: e.bytes

/-- The bytes on TXD of the frame in transmission; none while TXD rests high (R163). -/
def State.txd (s : State) : List Byte :=
  match s.out.sending with
  | none => []
  | some f => lineFrame f.body

/-- The timebase ticks a frame of length L takes: (L + 3) bytes of 10 µs (R163). -/
def TxFrame.lineTicks (f : TxFrame) : Nat := (f.body.length + 3) * Config.byteTicks

/-- The level on TXD at the tick where the transmitter stands (R155, R163): that of the bit of the frame in transmission
whose bit time it is; high while nothing is sent. -/
def State.txdLevel (s : State) : Bool := ((lineLevels s.txd)[s.out.sentTicks / Config.bitTicks]?).getD true

end Sys2Proof.Machine
end

