-- ==== Sys2Proof/Machine/Timebase.lean ====
section
/-! DEFINITION. One tick of the 50 ns timebase: what a step on an empty queue does (log 6). The tick advances every
counter of time, and puts the commands that fall due on the queue. -/

namespace Sys2Proof.Machine

/-! ## The counters of time -/

/-- The tick is one at which the time stamp advances (R26). -/
def Clock.microTick (k : Clock) : Bool := decide (Config.ticksPerMicro ≤ k.subTicks + 1)

/-- The tick is a ramp tick (R106). -/
def Clock.rampTick (k : Clock) : Bool := decide (Config.rampPeriodTicks ≤ k.rampTicks + 1)

/-- The ramp tick's phase alone moves on, as under NRST (R168, R180). -/
def Clock.tickRamp (k : Clock) : Clock := { k with rampTicks := if k.rampTick then 0 else k.rampTicks + 1 }

/-- The timebase after one tick (R26, R106). -/
def Clock.tick (k : Clock) : Clock :=
  { k.tickRamp with stamp := if k.microTick then k.stamp + 1 else k.stamp
                    subTicks := if k.microTick then 0 else k.subTicks + 1 }

/-- The pulse timer of an enabled channel moves on (R86). -/
def Channel.tick (c : Channel) : Channel := if c.state = .off then c else { c with phase := c.phase + 1 }

/-- The conversion in progress has run one tick longer (R48). -/
def Conversion.tick (v : Conversion) : Conversion := { v with elapsed := v.elapsed + 1 }

/-- The frame in transmission has been on the line one tick longer (R163). -/
def Outbox.tick (o : Outbox) : Outbox := if o.sending.isSome then { o with sentTicks := o.sentTicks + 1 } else o

/-- A source's own measure of its TRIPPED time passes 65,535 ms (R130, log 13). -/
def Source.tick (src : Source) (now : Stamp) : Source :=
  if src.state = .tripped ∧ 65535000 ≤ (now - src.trippedSince).toNat then { src with heldLong := true } else src

/-- Every counter of time moves on by one tick. A transmitter that is idle while an entry waits, as after a reset,
chooses first (log 9). -/
def State.advanceTime (s : State) : State :=
  { s with clock := s.clock.tick
           chans := s.chans.map Channel.tick
           conv := s.conv.map Conversion.tick
           sources := s.sources.map (fun src => src.tick s.clock.tick.stamp)
           out := s.out.choose.tick }

/-! ## What falls due -/

/-- A command, if its moment is here. -/
def dueIf (due : Bool) (c : Instr) : List Instr := if due then [c] else []

/-- The boundary and the midpoint of a channel (R27, R86). -/
def State.pulseDue (s : State) (c : ChanId) : List Instr :=
  let v := s.chan c
  dueIf (v.state != .off && decide (v.period ≤ v.phase)) (.periodBoundary c) ++
    dueIf (v.state != .off && v.phase == v.period / 2) (.periodMidpoint c)

/-- The timers that are compared with the time stamp, at a tick at which it advances (R26). -/
def State.stampDue (s : State) : List Instr :=
  ([0, 1, 2, 3] : List (Fin 4)).flatMap (fun k => dueIf (s.cadenceDue k) (.cadenceAnchorFire k)) ++
    (List.finRange 32).flatMap (fun x => dueIf (s.waitOver x) (.waitLimitExpiry x)) ++
    (List.finRange 8).flatMap (fun p =>
      dueIf ((s.source (pinSource p)).state == .qualifying && s.qualificationOver (pinSource p))
        (.qualificationExpiry p)) ++
    allUnits.flatMap (fun u => dueIf (s.graceOver u) (.graceExpiry u) ++ dueIf (s.quietOver u) (.stall u))

/-- The end of the conversion in progress (R48). Its count is a free value (log 3). -/
def State.conversionDue (s : State) : List Instr :=
  match s.conv with
  | none => []
  | some v => dueIf (decide (Config.conversionTicks ≤ v.elapsed))
      (.conversionComplete (Config.sampledCount v.channel s.drawn))

/-- The end of the frame in transmission (R163). -/
def State.transmissionDue (s : State) : List Instr :=
  match s.out.sending with
  | none => []
  | some f => dueIf (decide (f.lineTicks ≤ s.out.sentTicks)) .frameTransmitted

/-- RXD has been high at some moment since the last reset, and the part is to be told so. A line that was low at the
reset and stays low has been low for 20 µs within 20 µs of the reset, at a LINK_BREAK that is no break (R164, R179). More
than 20 µs after the reset without one, the line has been high (log 32). -/
def State.highSinceReset (s : State) : Bool :=
  s.pins.rxd && !s.link.seenHigh &&
    decide (Config.breakTicks < s.clock.stamp.toNat * Config.ticksPerMicro + s.clock.subTicks)

/-- What falls due at this tick, from the state after the counters of time have moved on. -/
def State.dueNow (s : State) (micro ramp : Bool) : List Instr :=
  dueIf ramp .rampTick ++ allChans.flatMap s.pulseDue ++ (if micro then s.stampDue else []) ++ s.conversionDue ++
    s.transmissionDue ++ dueIf s.highSinceReset .rxdReturnsHigh

/-- A command enters a list at one of its places. -/
def insertAt : Nat → Instr → List Instr → List Instr
  | 0, c, l => c :: l
  | _ + 1, c, [] => [c]
  | n + 1, c, d :: l => d :: insertAt n c l

/-- Things that fall at one moment, in an order that free values decide: either may be taken first (log 4). -/
def freeOrder (drawn : Nat) : List Instr → List Instr
  | [] => []
  | [c] => [c]
  | c :: d :: l =>
    insertAt (Config.orderAtOneMoment (drawn + l.length) % (l.length + 2)) c (freeOrder drawn (d :: l))

/-- The commands that fall due are put on the queue. Free values drawn are counted. -/
def State.putDue (s : State) (l : List Instr) : State :=
  { s with pending := s.pending ++ freeOrder s.drawn l, drawn := s.drawn + l.length }

/-- One tick of the timebase (log 6). -/
def State.tick (s : State) : State :=
  if s.pins.nrst then s.advanceTime.putDue (s.advanceTime.dueNow s.clock.microTick s.clock.rampTick)
  else { s with clock := s.clock.tickRamp }

end Sys2Proof.Machine
end

