-- ==== Sys2Proof/Machine/Dispatch.lean ====
section
/-! DEFINITION. The meaning of each command: one arm for each constructor of Instr. -/

namespace Sys2Proof.Machine

def exec (i : Instr) (s : State) : Host.Outcome State Fault Refusal :=
  match i with
  | .ping tag p => Sys2Proof.Machine.execPing tag p s
  | .status tag p => Sys2Proof.Machine.execStatus tag p s
  | .restart tag p => Sys2Proof.Machine.execRestart tag p s
  | .setChannel tag p => Sys2Proof.Machine.execSetChannel tag p s
  | .drive tag p => Sys2Proof.Machine.execDrive tag p s
  | .stopAll tag p => Sys2Proof.Machine.execStopAll tag p s
  | .setProfile tag p => Sys2Proof.Machine.execSetProfile tag p s
  | .selectProfile tag p => Sys2Proof.Machine.execSelectProfile tag p s
  | .snapshot tag p => Sys2Proof.Machine.execSnapshot tag p s
  | .defineAcq tag p => Sys2Proof.Machine.execDefineAcq tag p s
  | .armAcq tag p => Sys2Proof.Machine.execArmAcq tag p s
  | .cancelAcq tag p => Sys2Proof.Machine.execCancelAcq tag p s
  | .releaseAcq tag p => Sys2Proof.Machine.execReleaseAcq tag p s
  | .setAnchor tag p => Sys2Proof.Machine.execSetAnchor tag p s
  | .setRing tag p => Sys2Proof.Machine.execSetRing tag p s
  | .readRing tag p => Sys2Proof.Machine.execReadRing tag p s
  | .setGuard tag p => Sys2Proof.Machine.execSetGuard tag p s
  | .clearTrip tag p => Sys2Proof.Machine.execClearTrip tag p s
  | .setCounter tag p => Sys2Proof.Machine.execSetCounter tag p s
  | .readCounters tag p => Sys2Proof.Machine.execReadCounters tag p s
  | .unknownKind tag kind p => Sys2Proof.Machine.execUnknownKind tag kind p s
  | .frameReceived bytes => Sys2Proof.Machine.execFrameReceived bytes s
  | .interByteGapTimeout => Sys2Proof.Machine.execInterByteGapTimeout s
  | .framingError => Sys2Proof.Machine.execFramingError s
  | .linkBreak => Sys2Proof.Machine.execLinkBreak s
  | .frameTransmitted => Sys2Proof.Machine.execFrameTransmitted s
  | .restartReset => Sys2Proof.Machine.execRestartReset s
  | .powerOn => Sys2Proof.Machine.execPowerOn s
  | .nrstAssert => Sys2Proof.Machine.execNrstAssert s
  | .nrstRelease => Sys2Proof.Machine.execNrstRelease s
  | .rampTick => Sys2Proof.Machine.execRampTick s
  | .holdExpiry group => Sys2Proof.Machine.execHoldExpiry group s
  | .periodBoundary ch => Sys2Proof.Machine.execPeriodBoundary ch s
  | .periodMidpoint ch => Sys2Proof.Machine.execPeriodMidpoint ch s
  | .centreAnchorFire ch => Sys2Proof.Machine.execCentreAnchorFire ch s
  | .cadenceAnchorFire k => Sys2Proof.Machine.execCadenceAnchorFire k s
  | .conversionComplete value => Sys2Proof.Machine.execConversionComplete value s
  | .waitLimitExpiry slot => Sys2Proof.Machine.execWaitLimitExpiry slot s
  | .guardPinAssert pin => Sys2Proof.Machine.execGuardPinAssert pin s
  | .guardPinDeassert pin => Sys2Proof.Machine.execGuardPinDeassert pin s
  | .qualificationExpiry pin => Sys2Proof.Machine.execQualificationExpiry pin s
  | .quadratureStep unit a b => Sys2Proof.Machine.execQuadratureStep unit a b s
  | .tachEdge => Sys2Proof.Machine.execTachEdge s
  | .tallyWrap unit up => Sys2Proof.Machine.execTallyWrap unit up s
  | .graceExpiry unit => Sys2Proof.Machine.execGraceExpiry unit s
  | .stall unit => Sys2Proof.Machine.execStall unit s
  | .byteReceived b => Sys2Proof.Machine.execByteReceived b s
  | .rxdReturnsHigh => Sys2Proof.Machine.execRxdReturnsHigh s

end Sys2Proof.Machine
end

