-- ==== Sys2Proof/Machine/Step.lean ====
section
/-! DEFINITION. One step: the command at the front of the queue, or a tick of the timebase on an empty queue. -/

namespace Sys2Proof.Machine

/-- The state with the queue's rest. -/
def State.withRest (s : State) (rest : List Instr) : State := { s with pending := rest }

/-- The command at the front of the queue is taken and run with the queue's rest; on an empty queue one tick of the
timebase passes (log 6). -/
def step (s : State) : Host.Outcome State Fault Refusal :=
  match s.pending with
  | [] => .next s.tick
  | c :: rest => exec c (s.withRest rest)

/-- The state with the command that a table word spells at the front of the queue. No row gives bits, so no word spells
a command and the state is unchanged. -/
def State.withFetchWord (s : State) (nbits w : Nat) : State :=
  match decodeTableWord nbits w with
  | none => s
  | some c => { s with pending := c :: s.pending }

end Sys2Proof.Machine
end

