-- ==== Sys2Proof/Safety.lean ====
section
/-! DEFINITION. The laws of the device as predicates on a state, and what the statements need to speak of a state: when
a request is taken as it arrives, when a step is a reset. -/

namespace Sys2Proof.Machine

/-! ## When a command is taken -/

/-- A request that arrives now is taken at once (R158): the part is not held in reset, RXD is not held low, no request
waits, the reply queue has room, and no RESTART awaits the end of its reply. -/
abbrev State.takesAtOnce (s : State) : Prop :=
  s.pins.nrst = true ∧ s.pins.rxd = true ∧ s.link.requests = [] ∧ s.out.replies.length < 4 ∧ s.link.restartWait = false

/-- The row of a request kind: a frame of that kind, with this tag and this payload, arrives. -/
def RequestKind.row : RequestKind → Byte → List Byte → Instr
  | .ping => .ping
  | .status => .status
  | .restart => .restart
  | .setChannel => .setChannel
  | .drive => .drive
  | .stopAll => .stopAll
  | .setProfile => .setProfile
  | .selectProfile => .selectProfile
  | .snapshot => .snapshot
  | .defineAcq => .defineAcq
  | .armAcq => .armAcq
  | .cancelAcq => .cancelAcq
  | .releaseAcq => .releaseAcq
  | .setAnchor => .setAnchor
  | .setRing => .setRing
  | .readRing => .readRing
  | .setGuard => .setGuard
  | .clearTrip => .clearTrip
  | .setCounter => .setCounter
  | .readCounters => .readCounters

/-- A command that resets the part in this state (R168). -/
def State.resets (s : State) : Instr → Bool
  | .powerOn => true
  | .nrstAssert => s.pins.nrst
  | .nrstRelease => !s.pins.nrst
  | .frameTransmitted => s.pins.nrst && s.restartReplyEnds
  | .restartReset => s.pins.nrst && s.restartReplyEnds
  | _ => false

/-! ## Acquisition table, anchors and converter -/

/-- How often a slot stands on the wait lists. -/
def State.waitCount (s : State) (x : SlotId) : Nat := (s.anchors.toList.map (fun an => an.waitList.count x)).sum

/-- How often a slot stands in the ready queue. -/
def State.readyCount (s : State) (x : SlotId) : Nat := (s.ready.toList.map (fun l => l.count x)).sum

/-- The law of R14: a WAITING slot stands on exactly one wait list, its anchor's; a READY slot stands exactly once in
the ready queue, in the list of its own level; no slot in another state stands on either. -/
abbrev State.slotLaw (s : State) : Prop :=
  ∀ x : SlotId,
    s.waitCount x = (if (s.slot x).state = .waiting then 1 else 0) ∧
    s.readyCount x = (if (s.slot x).state = .ready then 1 else 0) ∧
    ((s.slot x).state = .waiting → ∃ a : AnchorId, (s.slot x).defn.anchor = some a ∧ x ∈ (s.anchor a).waitList) ∧
    ((s.slot x).state = .ready → x ∈ s.level (s.slot x).defn.level)

/-- The law of R47: the converter is CONVERTING exactly when one slot is, and for that slot. -/
abbrev State.converterLaw (s : State) : Prop :=
  ∀ x : SlotId, (s.slot x).state = .converting ↔ s.conv.map (fun v => v.slot) = some x

/-- The law of R10: the cursor of a slot that holds a definition is below its element count; it is 0 unless the slot is
CONVERTING or READY; the partial values are those of the elements before it. -/
abbrev State.cursorLaw (s : State) : Prop :=
  ∀ x : SlotId,
    ((s.slot x).state ≠ .free → (s.slot x).cursor < (s.slot x).defn.elements.length) ∧
    ((s.slot x).state ≠ .converting → (s.slot x).state ≠ .ready → (s.slot x).cursor = 0) ∧
    (s.slot x).partials.length = (s.slot x).cursor

/-- Dispatch is made whenever the converter is IDLE and the queue is not empty (R50), so none is left to make, but
where the very next command takes a CANCEL-ACQ of a READY slot and makes the dispatch (R41, R59, log 30). -/
abbrev State.dispatchLaw (s : State) : Prop :=
  s.conv = none → (∀ l : Fin 8, s.level l = []) ∨ s.cancelNext = true

/-- The law of R37: a bank is at most 3, and above 0 only in ONE mode with an empty wait list. -/
abbrev State.bankLaw (s : State) : Prop :=
  ∀ a : AnchorId, (s.anchor a).bank ≤ 3 ∧
    (0 < (s.anchor a).bank → (s.anchor a).mode = .one ∧ (s.anchor a).waitList = [])

/-- The bound of R67: a ring holds at most 32 entries. -/
abbrev State.ringLaw (s : State) : Prop := ∀ n : RingId, (s.ring n).entries.length ≤ 32

/-! ## Pulse channels -/

/-- A channel in OFF or HALT stands at zero (R89, R90, R94). -/
abbrev Channel.atZero (c : Channel) : Prop :=
  c.target = 0 ∧ c.ramped = 0 ∧ c.mag = 0 ∧ c.nextOn = 0 ∧ c.activeOn = 0

/-- U and the next on-ticks of a channel are those a recompute forms from what the channel holds now (R117 to R120). -/
abbrev State.freshMagnitude (s : State) (c : ChanId) : Prop :=
  (s.chan c).mag = magnitudeOf (s.chan c) (s.effMax c) (s.layer c).capOf ∧
    (s.chan c).nextOn = roundDiv (s.chan c).rounding ((s.chan c).mag * (s.chan c).period) 1000

/-- Two channels agree but for what a recompute writes (R117, R118). -/
abbrev Channel.sameButMagnitude (c d : Channel) : Prop :=
  c = { d with mag := c.mag, nextOn := c.nextOn, limCurrent := c.limCurrent, limCap := c.limCap }

/-- A counting unit that a U of 0 reaches (R148, R150): it is disarmed and its lockout is cleared. -/
def Counter.atRest (k : Counter) : Counter := { k with armed := false, lockout := false }

/-- Two units agree but for what a magnitude or an expiry writes (R148, R150). -/
abbrev Counter.sameCounts (k m : Counter) : Prop :=
  k = { m with armed := k.armed, lockout := k.lockout, graceStart := k.graceStart, quietStart := k.quietStart }

/-- The law of R89: a channel in OFF or HALT has T = 0, R = 0 and active on-ticks 0 (and U and next on-ticks 0 with
them); a channel in OFF has F 0 (R90); a channel in IDLE has T and R 0; a period that has had no pulse has active
on-ticks 0 (R93). -/
abbrev State.restLaw (s : State) : Prop :=
  ∀ c : ChanId, ((s.chan c).state = .off ∨ (s.chan c).state = .halt → (s.chan c).atZero) ∧
    ((s.chan c).state = .off → (s.chan c).fold = 0) ∧
    ((s.chan c).state = .idle → (s.chan c).target = 0 ∧ (s.chan c).ramped = 0) ∧
    ((s.chan c).pulsed = false → (s.chan c).activeOn = 0)

/-- The law of R120: the ranges of the duty computation at every channel. -/
abbrev State.dutyLaw (s : State) : Prop :=
  ∀ c : ChanId, (s.chan c).target.natAbs ≤ 1000 ∧ (s.chan c).ramped.natAbs ≤ 1000 ∧ (s.chan c).fold ≤ 1000 ∧
    (s.chan c).mag ≤ min (s.chan c).ramped.natAbs (s.effMax c) ∧ (s.chan c).nextOn ≤ (s.chan c).period ∧
    (s.chan c).activeOn ≤ (s.chan c).period ∧ (c = 2 → 0 ≤ (s.chan c).target ∧ 0 ≤ (s.chan c).ramped)

/-- The law of R136: while an enabled source with action COAST or BRAKE is TRIPPED or LATCHED, every enabled channel in
its mask is in HALT. -/
abbrev State.haltLaw (s : State) : Prop :=
  ∀ (n : SourceId) (c : ChanId), (s.source n).enabled = true →
    ((s.source n).action = .coast ∨ (s.source n).action = .brake) →
    ((s.source n).state = .tripped ∨ (s.source n).state = .latched) →
    (s.source n).mask.getLsbD c.val = true → (s.chan c).state ≠ .off → (s.chan c).state = .halt

/-! ## Guard sources and counting units -/

/-- A source that is not enabled is INACTIVE (R125); an internal source is never QUALIFYING or TRIPPED (R132). -/
abbrev State.sourceLaw (s : State) : Prop :=
  ∀ n : SourceId, ((s.source n).enabled = false → (s.source n).state = .inactive) ∧
    (pinOf n = none → (s.source n).state = .inactive ∨ (s.source n).state = .latched)

/-- A unit that is armed, or locked out after a stall, watches a channel whose U is above 0 (R148, R150); the tally
stays below its limit, and at 0 while the limit is 0 (R143, R147). -/
abbrev State.counterLaw (s : State) : Prop :=
  ∀ u : UnitId, ((s.counter u).armed = true → s.watched u ≠ 0 ∧ (s.counter u).lockout = false) ∧
    ((s.counter u).lockout = true → s.watched u ≠ 0) ∧
    (if (s.counter u).tallyLimit = 0 then (s.counter u).tally = 0 else (s.counter u).tally < (s.counter u).tallyLimit)

/-! ## Link controller -/

/-- Two records may stand in the event queue together: they differ in kind or source, or are READY (R162). -/
abbrev EventRecord.standsWith (a b : EventRecord) : Prop := a.kind = .ready ∨ a.kind ≠ b.kind ∨ a.source ≠ b.source

/-- The law of R162: at most 16 entries, no two of the same kind and source, READY excepted. -/
abbrev State.eventLaw (s : State) : Prop :=
  s.out.events.length ≤ 16 ∧ s.out.events.Pairwise EventRecord.standsWith

/-- The queues of R158 and R160 hold at most four; a request waits only while it cannot be taken (R158), or for a link
break that falls with its checksum byte (R169, log 35); an idle transmitter leaves no reply waiting, and no event but a
READY (R163, R168). -/
abbrev State.linkLaw (s : State) : Prop :=
  s.link.requests.length ≤ 4 ∧ s.out.replies.length ≤ 4 ∧ (s.link.requests ≠ [] → s.mayTake = false ∨ s.breakNext = true) ∧
    (s.out.sending = none → s.out.replies = [] ∧ ∀ e ∈ s.out.events, e.kind = .ready)

/-- What the receiver holds of a frame is shorter than the frame its length byte announces (R156). -/
abbrev State.receiverLaw (s : State) : Prop :=
  match s.link.mode with
  | .hunt => True
  | .frame [] => True
  | .frame (len :: rest) => lengthFits len = true ∧ rest.length < len.toNat + 1

end Sys2Proof.Machine
end

