-- ==== Sys2Proof/WellFormed.lean ====
section
/-! DEFINITION. The checks on a command's operands: what a sender on the real link and pins can send. -/

namespace Sys2Proof

/-- The twenty request kinds (R173). -/
def requestKinds : List Byte :=
  [0x01, 0x02, 0x03, 0x10, 0x11, 0x12, 0x13, 0x14, 0x15, 0x20, 0x21, 0x22, 0x23, 0x24, 0x25, 0x26, 0x30, 0x31, 0x40, 0x41]

/-- What a request frame that joins the request queue satisfies (R156, R171): tag 1 to 255, payload 0 to 248 bytes. -/
def requestFits (tag : Byte) (payload : List Byte) : Bool :=
  tag != 0 && decide (payload.length ≤ 248)

/-- The bytes of a whole frame after its start byte (R156): the length byte, in 2 to 250, counts all but itself and
the checksum. -/
def frameFits (bytes : List Byte) : Bool :=
  match bytes with
  | [] => false
  | len :: rest => decide (2 ≤ len.toNat) && decide (len.toNat ≤ 250) && rest.length == len.toNat + 1

/-- The operands of a command are ones the link or the pins can carry. -/
def Instr.wf (c : Instr) : Bool :=
  match c with
  | .ping tag p => requestFits tag p
  | .status tag p => requestFits tag p
  | .restart tag p => requestFits tag p
  | .setChannel tag p => requestFits tag p
  | .drive tag p => requestFits tag p
  | .stopAll tag p => requestFits tag p
  | .setProfile tag p => requestFits tag p
  | .selectProfile tag p => requestFits tag p
  | .snapshot tag p => requestFits tag p
  | .defineAcq tag p => requestFits tag p
  | .armAcq tag p => requestFits tag p
  | .cancelAcq tag p => requestFits tag p
  | .releaseAcq tag p => requestFits tag p
  | .setAnchor tag p => requestFits tag p
  | .setRing tag p => requestFits tag p
  | .readRing tag p => requestFits tag p
  | .setGuard tag p => requestFits tag p
  | .clearTrip tag p => requestFits tag p
  | .setCounter tag p => requestFits tag p
  | .readCounters tag p => requestFits tag p
  | .unknownKind tag kind p => requestFits tag p && !requestKinds.contains kind
  | .frameReceived bytes => frameFits bytes
  | .interByteGapTimeout => true
  | .framingError => true
  | .linkBreak => true
  | .frameTransmitted => true
  | .restartReset => true
  | .powerOn => true
  | .nrstAssert => true
  | .nrstRelease => true
  | .rampTick => true
  | .holdExpiry _ => true
  | .periodBoundary _ => true
  | .periodMidpoint _ => true
  | .centreAnchorFire _ => true
  | .cadenceAnchorFire _ => true
  | .conversionComplete _ => true
  | .waitLimitExpiry _ => true
  | .guardPinAssert _ => true
  | .guardPinDeassert _ => true
  | .qualificationExpiry _ => true
  | .quadratureStep _ _ _ => true
  | .tachEdge => true
  | .tallyWrap unit up => unit != 2 || up
  | .graceExpiry _ => true
  | .stall _ => true
  | .byteReceived _ => true
  | .rxdReturnsHigh => true

end Sys2Proof
end

