-- ==== Sys2Proof/Certificates/Slice0/Obligations.lean ====
section
/-! DEFINITION. The statements for the provers. Each is about every state unless it names its conditions. A statement
about one command ends in "exec answers next" of the state the rules give; a record written { s with ... } leaves every
field it does not name as it was, which is the command's frame.

The statements about a request, from PingReportsIdentityAndTime to ReadCountersReportsUnits, are about the arrival of
its frame on a line that is high, taken at once (log 7), also where a LINK_BREAK stands behind its row (log 35). A
frame that arrives shows that RXD has been seen high, which is s.seeHigh (log 25). These are the model's choices, for
the whole family. -/

section Statements

open Sys2Proof Sys2Proof.Machine

/-! ## The queue, the tick and the reset -/

/-- A step takes the command at the front of the queue and runs it with the queue's rest. No word of the opcode table
spells a command, since no row gives bits. Every command answers a next state in every state: none faults and none is
refused (log 1). -/
def Obligations.StepRunsFrontCommand : Prop :=
  ((∀ (c : Instr) (rest : List Instr) (s : State), s.pending = c :: rest →
     step s = exec c { s with pending := rest }) ∧
   (∀ (nbits w : Nat) (s : State), decodeTableWord nbits w = none ∧ s.withFetchWord nbits w = s)) ∧
  (∀ (c : Instr) (s : State), ∃ t : State, exec c s = .next t)

/-- A step on an empty queue is one 50 ns tick (log 6). The time stamp advances every 20 ticks (R26), the pulse timers
of the enabled channels (R86), the converter (R48) and the transmitter (R163) move on, an idle transmitter with an
entry waiting chooses first (log 9), and a TRIPPED time past 65,535 ms is marked (R130, log 13). What falls due, and
nothing else, joins the queue: the ramp tick every 20000 ticks (R106), boundary and midpoint (R27, R86), a conversion
after 100 ticks with a free count (R48, log 3), a frame of length L after (L + 3) * 200 ticks (R163), when the time
stamp advances the timers it has reached (R26), and, more than 20 µs after a reset without a LINK_BREAK, a line seen
high (R164, R179, log 32). Under NRST only the phase of the ramp ticks moves (R168). -/
def Obligations.IdleStepIsOneTick : Prop :=
  ∀ s : State, s.pending = [] → s.clock.subTicks < 20 → s.clock.rampTicks < 20000 →
    (s.pins.nrst = true → ∃ t : State, step s = .next t ∧
      t.clock = { stamp := if s.clock.subTicks = 19 then s.clock.stamp + 1 else s.clock.stamp
                  subTicks := (s.clock.subTicks + 1) % 20
                  rampTicks := (s.clock.rampTicks + 1) % 20000 } ∧
      (∀ c : ChanId, t.chan c =
        if (s.chan c).state = .off then s.chan c else { s.chan c with phase := (s.chan c).phase + 1 }) ∧
      t.conv = s.conv.map (fun v => { v with elapsed := v.elapsed + 1 }) ∧
      (∀ n : SourceId, t.source n = { s.source n with
        heldLong := (s.source n).heldLong ||
          decide ((s.source n).state = .tripped ∧ 65535000 ≤ (t.now - (s.source n).trippedSince).toNat) }) ∧
      t.out = (if s.out.choose.sending.isSome
        then { s.out.choose with sentTicks := s.out.choose.sentTicks + 1 } else s.out.choose) ∧
      t = { s with clock := t.clock, chans := t.chans, conv := t.conv, sources := t.sources, out := t.out,
                   pending := t.pending, drawn := t.drawn } ∧
      t.drawn = s.drawn + t.pending.length ∧ t.pending.Nodup ∧
      (let reaches (start : Stamp) (us : Nat) : Prop :=
         s.clock.subTicks = 19 ∧ (start + BitVec.ofNat 32 us - t.now).toInt ≤ 0
       ∀ i : Instr, i ∈ t.pending ↔
         match i with
         | .rampTick => s.clock.rampTicks = 19999
         | .periodBoundary c => (t.chan c).state ≠ .off ∧ (t.chan c).period ≤ (t.chan c).phase
         | .periodMidpoint c => (t.chan c).state ≠ .off ∧ (t.chan c).phase = (t.chan c).period / 2
         | .cadenceAnchorFire k => (t.cadences.get k).period ≠ 0 ∧ reaches (t.cadences.get k).due 0
         | .waitLimitExpiry x => (t.slot x).state = .ready ∧ (t.slot x).cursor = 0 ∧ (t.slot x).late = false ∧
             (t.slot x).defn.waitLimit ≠ 0 ∧ reaches (t.slot x).readySince (t.slot x).defn.waitLimit
         | .qualificationExpiry g => (t.source (pinSource g)).state = .qualifying ∧
             reaches (t.source (pinSource g)).qualStart ((t.source (pinSource g)).qualification * 1000)
         | .graceExpiry u => (t.chan (chanOf u)).mag ≠ 0 ∧ (t.counter u).armed = false ∧
             (t.counter u).lockout = false ∧ reaches (t.counter u).graceStart ((t.counter u).grace * 1000)
         | .stall u => (t.counter u).armed = true ∧ (t.counter u).quiet ≠ 0 ∧
             reaches (t.counter u).quietStart ((t.counter u).quiet * 1000)
         | .conversionComplete value => ∃ v : Conversion, t.conv = some v ∧ 100 ≤ v.elapsed ∧
             value = Config.sampledCount v.channel s.drawn
         | .frameTransmitted => ∃ f : TxFrame, t.out.sending = some f ∧ (f.body.length + 3) * 200 ≤ t.out.sentTicks
         | .rxdReturnsHigh => s.pins.rxd = true ∧ s.link.seenHigh = false ∧
             400 < t.clock.stamp.toNat * 20 + t.clock.subTicks
         | _ => False)) ∧
    (s.pins.nrst = false →
      step s = .next { s with clock := { s.clock with rampTicks := (s.clock.rampTicks + 1) % 20000 } })

/-- The values the spec gives for reset (R24, R26, R42, R66, R82, R83, R105, R124, R142, R154, R168, R179, R180), and the
laws of the device, which hold there. The levels of the pins are left out (log 5), and with them the line levels that the
decoders hold, which are those of the pins (R154). The pulse timer of a channel in OFF is the model's choice (log 31). -/
def Obligations.ResetLeavesSpecValues : Prop :=
  ((∀ x : SlotId, State.reset.slot x =
     { defn := { level := 0, anchor := none, elements := [], repeating := false, rounds := 0, waitLimit := 0,
                 atomic := false, ring := none, feedback := none, window := none }
       state := .free, cursor := 0, partials := [], sequence := 0, remaining := 0, roundTime := 0, late := false
       cancel := false, readySince := 0 }) ∧
   (∀ a : AnchorId, State.reset.anchor a = { waitList := [], mode := .all, insert := .tail, bank := 0 }) ∧
   (∀ k : Fin 4, State.reset.cadences.get k = { period := 0, due := 0 }) ∧
   (∀ l : Fin 8, State.reset.level l = []) ∧ State.reset.conv = none ∧
   (∀ n : RingId, State.reset.ring n =
     { entries := [], policy := .overwrite, watermark := 16, overrun := false, writePos := 0, readPos := 0 }) ∧
   (∀ c : ChanId, State.reset.chan c =
     { period := 1000, pendingPeriod := none, minPulse := 0, maxBase := 1000, slewBase := 20, limitBase := 0,
       gain := 16, relax := 10, rounding := .rnu, divider := 1, state := .off, target := 0, ramped := 0, fold := 0,
       mag := 0, nextOn := 0, activeOn := 0, direction := .fwd, brakeHeld := false, centreCount := 0,
       lastFeedback := 0, limCurrent := false, limCap := false, fbMissed := false, phase := 0, pulsed := false }) ∧
   State.reset.hold .motion = { time := 250, left := 0 } ∧ State.reset.hold .blade = { time := 500, left := 0 } ∧
   (∀ (pf : Fin 4) (c : ChanId), (State.reset.profiles.get pf).get c = { maximum := 0, slew := 0, limit := 0 }) ∧
   State.reset.activeProfile = 0 ∧
   (∀ n : SourceId, State.reset.source n =
     { enabled := false, activeHigh := false, qualification := 2, action := .report, capValue := 1000, mask := 0,
       epochOption := false, anchorOption := false, state := .inactive, qualStart := 0, trippedSince := 0,
       heldLong := false }) ∧
   State.reset.epoch = 0 ∧
   (∀ u : UnitId, State.reset.counter u =
     { position := 0, tally := 0, tallyLimit := 0, quiet := 0, grace := 200, armed := false, lockout := false,
       graceStart := 0, quietStart := 0 }) ∧
   (∀ d : Fin 2, (State.reset.decoder d).countError = false ∧ (State.reset.decoder d).last = State.reset.pins.enc.get d) ∧
   State.reset.clock = { stamp := 0, subTicks := 0, rampTicks := 0 } ∧
   State.reset.link = { mode := .hunt, seenHigh := false, linkError := false, requests := [], restartWait := false } ∧
   State.reset.out =
     { replies := [], sending := none, sentTicks := 0, lastServed := .event
       events := [{ kind := .ready, source := 0, count := 1, overflow := false, epoch := 0, stamp := 0,
                    detail := 1 }] }) ∧
  (State.reset.slotLaw ∧ State.reset.converterLaw ∧ State.reset.cursorLaw ∧ State.reset.dispatchLaw ∧
     State.reset.bankLaw ∧ State.reset.ringLaw ∧ State.reset.restLaw ∧ State.reset.dutyLaw ∧ State.reset.haltLaw ∧
     State.reset.sourceLaw ∧ State.reset.counterLaw ∧ State.reset.eventLaw ∧ State.reset.linkLaw ∧
     State.reset.receiverLaw)

/-- POWER_ON, NRST_ASSERT, NRST_RELEASE, and the end of a RESTART's reply (as FRAME_TRANSMITTED and as RESTART_RESET)
leave every block at its reset values (R24, R42, R66, R82, R105, R124, R142, R154, R168), the READY record with its
cause in the event queue, the decoders with the levels on the pins, and the ramp ticks in phase but at power-on
(R180). The model's choices here: NRST holds the READY record from its fall on, and while it is low every other
command changes at most the level of its own pin (R168, log 15), the microsecond begins anew (log 24), the queue of
commands and the count of free values are kept (log 28), an NRST that is already low or already high changes nothing,
and so does RESTART_RESET at another moment (logs 2 and 8). -/
def Obligations.ResetsReturnResetValues : Prop :=
  let after (s : State) (cause : BitVec 16) (nrst : Bool) (rampTicks : Nat) : State :=
    { State.reset with
        clock := { stamp := 0, subTicks := 0, rampTicks := rampTicks }
        pins := { s.pins with nrst := nrst }
        decoders := s.pins.enc.map (fun p => { last := p, countError := false })
        out := { replies := [], sending := none, sentTicks := 0, lastServed := .event,
                 events := [{ kind := .ready, source := 0, count := 1, overflow := false, epoch := 0, stamp := 0,
                              detail := cause }] }
        pending := s.pending
        drawn := s.drawn }
  ∀ s : State,
    exec .powerOn s = .next (after s 1 s.pins.nrst 0) ∧
    (s.pins.nrst = true → exec .nrstAssert s = .next (after s 2 false s.clock.rampTicks)) ∧
    (s.pins.nrst = false → exec .nrstRelease s = .next (after s 2 true s.clock.rampTicks)) ∧
    (s.pins.nrst = false → exec .nrstAssert s = .next s) ∧
    (s.pins.nrst = true → exec .nrstRelease s = .next s) ∧
    (s.pins.nrst = true → s.restartReplyEnds = true →
      exec .frameTransmitted s = .next (after s 3 true s.clock.rampTicks) ∧
      exec .restartReset s = .next (after s 3 true s.clock.rampTicks)) ∧
    (s.restartReplyEnds = false → exec .restartReset s = .next s) ∧
    (s.pins.nrst = false → ∀ c : Instr, c ≠ .powerOn → c ≠ .nrstAssert → c ≠ .nrstRelease →
      exec c s = .next { s with pins := match c with
        | .guardPinAssert g => { s.pins with gin := Table.put s.pins.gin g (s.source (pinSource g)).activeHigh }
        | .guardPinDeassert g => { s.pins with gin := Table.put s.pins.gin g (!(s.source (pinSource g)).activeHigh) }
        | .quadratureStep d a b => { s.pins with enc := Table.put s.pins.enc d { a, b } }
        | .linkBreak => { s.pins with rxd := false }
        | .rxdReturnsHigh => { s.pins with rxd := true }
        | _ => s.pins })

/-! ## The laws of the device, kept by every step -/

/-- Every step keeps the laws of R14, R47 and R10: where the slots stand, whom the converter serves, how far a round has
come. -/
def Obligations.AcquisitionLawsKept : Prop :=
  ∀ s t : State, step s = .next t → s.slotLaw ∧ s.converterLaw ∧ s.cursorLaw →
    t.slotLaw ∧ t.converterLaw ∧ t.cursorLaw

/-- Every step leaves no dispatch to make: the converter is IDLE only with an empty ready queue (R50, R52), but for a
moment whose dispatch the next command makes, a CANCEL-ACQ of a READY slot that falls with it (R41, R59, log 30). -/
def Obligations.DispatchLawKept : Prop := ∀ s t : State, step s = .next t → s.dispatchLaw → t.dispatchLaw

/-- Every step keeps the law of the bank (R37) and the bound of the rings (R67). -/
def Obligations.BankAndRingLawsKept : Prop :=
  ∀ s t : State, step s = .next t → (s.bankLaw → t.bankLaw) ∧ (s.ringLaw → t.ringLaw)

/-- Every step keeps the laws of R89 and R120: channels in OFF and HALT stand at zero, in OFF with F 0 (R90), and the duty
computation stays in its ranges. -/
def Obligations.DriveLawsKept : Prop :=
  ∀ s t : State, step s = .next t → s.restLaw ∧ s.dutyLaw → t.restLaw ∧ t.dutyLaw

/-- Every step keeps the law of R136, no channel drives past a COAST or BRAKE source that holds it, and what R125 and
R132 say of the source states. -/
def Obligations.GuardLawsKept : Prop :=
  ∀ s t : State, step s = .next t → (s.haltLaw → t.haltLaw) ∧ (s.sourceLaw → t.sourceLaw)

/-- Every step keeps what R147, R148 and R150 say of an armed unit, a locked out unit and the tally. -/
def Obligations.CounterLawKept : Prop := ∀ s t : State, step s = .next t → s.counterLaw → t.counterLaw

/-- Every step keeps the law of the event queue (R162). -/
def Obligations.EventLawKept : Prop := ∀ s t : State, step s = .next t → s.eventLaw → t.eventLaw

/-- Every step keeps the bounds of the link controller's queues, takes every request that can be taken (R158), but for
one with whose checksum byte a link break falls (R169, log 35), leaves no reply with an idle transmitter (R163), and
keeps the receiver inside its frame (R156). -/
def Obligations.LinkLawsKept : Prop :=
  ∀ s t : State, step s = .next t → s.linkLaw ∧ s.receiverLaw → t.linkLaw ∧ t.receiverLaw

/-- Between resets a channel's direction changes only at its own period boundary, in DWELL, at the end of a period that
had no pulse (R93). -/
def Obligations.DirectionChangesAfterZeroPeriod : Prop :=
  ∀ (s t : State) (ch : ChanId), step s = .next t → (t.chan ch).direction ≠ (s.chan ch).direction →
    ∃ (c : Instr) (rest : List Instr), s.pending = c :: rest ∧
      (s.resets c = true ∨
        (c = .periodBoundary ch ∧ (s.chan ch).state = .dwell ∧ (s.chan ch).pulsed = false))


/-! ## The link controller -/

/-- What a free transmitter chooses (R163). A reply joins the reply queue as its newest; with an idle transmitter and
empty queues it is sent at once (R160, R163); if an event waits for the idle transmitter, as READY does after a reset,
that event is sent first (R168, log 9). An event is placed by the first of the three that applies (R162), with the
epoch and the time stamp of the moment (R161). -/
def Obligations.RepliesAndEventsAreQueued : Prop :=
  (∀ o : Outbox,
    (o.sending.isSome = true → o.choose = o) ∧ (o.replies = [] → o.events = [] → o.choose = o) ∧
    (∀ (r : Reply) (rs : List Reply), o.sending = none → o.replies = r :: rs → o.events = [] ∨ o.lastServed = .event →
      o.choose = { o with replies := rs, sending := some (.reply r), sentTicks := 0, lastServed := .reply }) ∧
    (∀ (e : EventRecord) (es : List EventRecord), o.sending = none → o.events = e :: es →
      o.replies = [] ∨ o.lastServed = .reply →
      o.choose = { o with events := es, sending := some (.event e), sentTicks := 0, lastServed := .event })) ∧
  (∀ (s : State) (r : Reply) (first : EventRecord) (rest : List EventRecord), s.out.sending = none →
    s.out.replies = [] → s.out.events = first :: rest →
    s.pushReply r = { s with out := { replies := [r], events := rest, sending := some (.event first), sentTicks := 0
                                      lastServed := .event } } ∧
    ∀ (kind : EventKind) (source : Nat) (detail : BitVec 16),
      s.post kind source detail = { s with out :=
        { replies := [], sending := some (.event first), sentTicks := 0, lastServed := .event
          events := placeEvent rest { kind, source, count := 1, overflow := false, epoch := s.epoch, stamp := s.now
                                      detail } } }) ∧
  (∀ (s : State) (r : Reply), s.out.sending.isSome = true →
    s.pushReply r = { s with out := { s.out with replies := s.out.replies ++ [r] } }) ∧
  (∀ (s : State) (r : Reply), s.out.sending = none → s.out.replies = [] → s.out.events = [] →
    s.pushReply r = { s with out := { s.out with sending := some (.reply r), sentTicks := 0, lastServed := .reply } }) ∧
  (∀ (s : State) (kind : EventKind) (source : Nat) (detail : BitVec 16),
    let e : EventRecord := { kind, source, count := 1, overflow := false, epoch := s.epoch, stamp := s.now, detail }
    (s.out.sending.isSome = true →
      s.post kind source detail = { s with out := { s.out with events := placeEvent s.out.events e } }) ∧
    (s.out.sending = none → s.out.replies = [] → s.out.events = [] →
      s.post kind source detail =
        { s with out := { s.out with sending := some (.event e), sentTicks := 0, lastServed := .event } })) ∧
  (∀ (q : List EventRecord) (e : EventRecord),
    ((∃ w ∈ q, e.kind ≠ .ready ∧ w.kind = e.kind ∧ w.source = e.source) →
      placeEvent q e = q.map (fun w => if e.kind ≠ .ready ∧ w.kind = e.kind ∧ w.source = e.source then
        { w with count := min 255 (w.count + 1) } else w)) ∧
    ((∀ w ∈ q, ¬ (e.kind ≠ .ready ∧ w.kind = e.kind ∧ w.source = e.source)) →
      (q.length < 16 → placeEvent q e = q ++ [e]) ∧
      (∀ (front : List EventRecord) (newest : EventRecord), q = front ++ [newest] → 16 ≤ q.length →
        placeEvent q e = front ++ [{ newest with overflow := true }])))

/-- PING that is taken as it arrives (R166, R174): OK, with family code 0x2E, revision 1 and the time stamp, and nothing
changes but the reply queue. That the frame arrived shows RXD high (logs 7 and 25). -/
def Obligations.PingReportsIdentityAndTime : Prop :=
  ∀ (s : State) (tag : Byte), s.takesAtOnce → tag ≠ 0 →
    exec (.ping tag []) s = .next (s.seeHigh.pushReply
      { tag := tag, kind := 0x81, payload := [0, s.epoch, 0x2E, 1] ++ out32 s.now.toNat })

/-- STATUS that is taken as it arrives (R167, R174): the report, then the flags of the report are cleared and nothing
else changes, but that the arrival shows RXD high (logs 7 and 25). -/
def Obligations.StatusReportsThenClears : Prop :=
  ∀ (s : State) (tag : Byte), s.takesAtOnce → tag ≠ 0 →
    exec (.status tag []) s = .next (State.pushReply
      { s.seeHigh with
          chans := s.chans.map (fun c => { c with limCurrent := false, limCap := false, fbMissed := false })
          decoders := s.decoders.map (fun d => { d with countError := false })
          link := { s.seeHigh.link with linkError := false } }
      { tag := tag
        kind := 0x82
        payload :=
          [0, s.epoch, if s.conv.isSome then 1 else 0] ++
          ([0, 1, 2, 3, 4, 5, 6, 7] : List (Fin 8)).map (fun l => BitVec.ofNat 8 (s.level l).length) ++
          ([0, 1, 2, 3, 4, 5, 6, 7, 8, 9, 10, 11] : List SourceId).map (fun n =>
            BitVec.ofNat 8 (s.source n).state.code) ++
          [BitVec.ofNat 8 s.activeProfile.val] ++
          ([0, 1, 2, 3] : List ChanId).flatMap (fun c =>
            [BitVec.ofNat 8 (s.chan c).state.code,
             BitVec.ofNat 8 ((if (s.chan c).limCurrent then 1 else 0) + (if (s.chan c).limCap then 2 else 0) +
               (if (s.chan c).fbMissed then 4 else 0))]) ++
          [BitVec.ofNat 8 ((if (s.decoder 0).countError then 1 else 0) + (if (s.decoder 1).countError then 2 else 0)),
           if s.link.linkError then 1 else 0] })

/-- RESTART that is taken as it arrives (R158, R168): OK at once; no further request is taken until the reset, which the
end of this reply's transmission brings (see ResetsReturnResetValues). What the link controller answers before a block is
reached (R159, R173): UNKNOWN-KIND to a kind outside the twenty, BAD-LENGTH to a length that is not the kind's own. -/
def Obligations.LinkControllerAnswers : Prop :=
  (∀ (s : State) (tag : Byte), s.takesAtOnce → tag ≠ 0 →
     exec (.restart tag []) s = .next (State.pushReply
       { s.seeHigh with link := { s.seeHigh.link with restartWait := true } }
       { tag := tag, kind := 0x83, payload := [0, s.epoch] }) ∧
     (∀ (t : State) (r : Request) (rest : List Request), t.link.restartWait = true → t.link.requests = r :: rest →
       t.takeAll = t)) ∧
  (∀ (s : State) (tag : Byte) (p : List Byte), s.takesAtOnce → tag ≠ 0 → p.length ≤ 248 →
     (∀ kind : Byte, kind ∉ requestKinds →
       exec (.unknownKind tag kind p) s = .next (s.seeHigh.pushReply
         { tag := tag, kind := kind + 0x80, payload := [2, s.epoch] })) ∧
     (∀ k : RequestKind, p.length ≠ k.payloadLength →
       exec (k.row tag p) s = .next (s.seeHigh.pushReply
         { tag := tag, kind := k.code + 0x80, payload := [3, s.epoch] })))

/-- A request that cannot be taken as it arrives (R156 to R158): with the reply queue full or a RESTART waiting it
joins the request queue as the newest; with tag 0, or four requests already waiting, it is dropped and the link-error
flag is set. A part held in reset receives nothing, nor does a line that is held low (R164, R168, R179). -/
def Obligations.RequestsWaitForRoom : Prop :=
  ∀ (s : State) (tag kind : Byte) (p : List Byte) (c : Instr), p.length ≤ 248 →
    (c = .unknownKind tag kind p ∨ ∃ k : RequestKind, k.code = kind ∧ c = k.row tag p) →
    (s.pins.nrst = false ∨ s.pins.rxd = false → exec c s = .next s) ∧
    (s.pins.nrst = true → s.pins.rxd = true → tag = 0 ∨ 4 ≤ s.link.requests.length →
      exec c s = .next { s.seeHigh with link := { s.seeHigh.link with linkError := true } }) ∧
    (s.pins.nrst = true → s.pins.rxd = true → tag ≠ 0 → s.link.requests.length < 4 →
      4 ≤ s.out.replies.length ∨ s.link.restartWait = true →
      exec c s = .next { s.seeHigh with
        link := { s.seeHigh.link with requests := s.link.requests ++ [{ tag, kind, payload := p }] } })

/-- A request that addresses a unit that does not exist is refused NO-SUCH (code 10) and changes nothing; the reply
carries the number alone, SET-PROFILE's both its numbers, SELECT-PROFILE's the active profile (R1, R39, R72, R73, R84,
R103, R109, R110, R126, R137, R151, R175). -/
def Obligations.NoSuchUnitIsRefused : Prop :=
  ∀ (s : State) (tag : Byte) (p : List Byte), s.takesAtOnce → tag ≠ 0 →
    (∀ (k : RequestKind) (units : Nat),
      (k, units) ∈ ([(.setChannel, 4), (.snapshot, 4), (.defineAcq, 32), (.armAcq, 32), (.cancelAcq, 32),
        (.releaseAcq, 32), (.setAnchor, 12), (.setRing, 8), (.readRing, 8), (.setGuard, 12), (.clearTrip, 12),
        (.setCounter, 3)] : List (RequestKind × Nat)) →
      p.length = k.payloadLength → units ≤ u8 p 0 →
      exec (k.row tag p) s = .next (s.seeHigh.pushReply
        { tag := tag, kind := k.code + 0x80, payload := [10, s.epoch, byteAt p 0] })) ∧
    (p.length = 8 → 4 ≤ u8 p 0 ∨ 4 ≤ u8 p 1 →
      exec (.setProfile tag p) s = .next (s.seeHigh.pushReply
        { tag := tag, kind := 0x93, payload := [10, s.epoch, byteAt p 0, byteAt p 1] })) ∧
    (p.length = 1 → 4 ≤ u8 p 0 →
      exec (.selectProfile tag p) s = .next (s.seeHigh.pushReply
        { tag := tag, kind := 0x94, payload := [10, s.epoch, BitVec.ofNat 8 s.activeProfile.val] }))

/-- A completed frame (R156, R157) is good when its length byte is in 2 to 250 and counts the tag, the kind and the
payload, and its bytes after the start byte sum to 0. A good frame is the arrival of its request with the receiver in
HUNT; where a LINK_BREAK stands behind it, the request joins the queue, which the break empties (R169, log 35); any
other is dropped with the link-error flag set. The receiver byte by byte (R155 to R157): in HUNT it waits for 0xA5 and
sets no flag; in FRAME it takes the length, as many bytes as it announces, and the checksum. A length out of range, a
gap and a framing error drop the frame. In HUNT the gap is not timed. On a line that is held low, after a break or
since a reset, no byte and no frame is received (R164, R169, R179). -/
def Obligations.ReceiverBuildsAndChecksFrames : Prop :=
  ((∀ (len tag kind check : Byte) (p : List Byte), p.length ≤ 248 →
     goodFrame (len :: tag :: kind :: (p ++ [check])) =
       if len.toNat = p.length + 2 ∧ p.foldl (· + ·) (len + tag + kind) + check = 0
       then some { tag := tag, kind := kind, payload := p } else none) ∧
   (∀ (s : State) (bytes : List Byte), s.pins.nrst = true → s.pins.rxd = true →
     (goodFrame bytes = none →
       exec (.frameReceived bytes) s =
         .next { s.seeHigh with link := { s.seeHigh.link with mode := .hunt, linkError := true } }) ∧
     (∀ r : Request, goodFrame bytes = some r → s.pending.head? = some .linkBreak →
       (r.tag ≠ 0 → s.link.requests.length < 4 →
         exec (.frameReceived bytes) s = .next { s.seeHigh with
           link := { s.seeHigh.link with mode := .hunt, requests := s.link.requests ++ [r] } }) ∧
       (r.tag = 0 ∨ 4 ≤ s.link.requests.length →
         exec (.frameReceived bytes) s =
           .next { s.seeHigh with link := { s.seeHigh.link with mode := .hunt, linkError := true } })) ∧
     (∀ r : Request, goodFrame bytes = some r → s.pending.head? ≠ some .linkBreak →
       (∀ k : RequestKind, k.code = r.kind →
         exec (.frameReceived bytes) s =
           exec (k.row r.tag r.payload) { s with link := { s.link with mode := .hunt } }) ∧
       (r.kind ∉ requestKinds →
         exec (.frameReceived bytes) s =
           exec (.unknownKind r.tag r.kind r.payload) { s with link := { s.link with mode := .hunt } })))) ∧
  (∀ (s : State) (b : Byte) (bytes : List Byte), s.pins.rxd = false →
     exec (.frameReceived bytes) s = .next s ∧ exec (.byteReceived b) s = .next s ∧ exec .framingError s = .next s) ∧
  (∀ (s : State) (b : Byte), s.pins.nrst = true → s.pins.rxd = true →
     let inMode (m : RxMode) : State := { s.seeHigh with link := { s.seeHigh.link with mode := m } }
     let dropped (t : State) : State := { t with link := { t.link with mode := .hunt, linkError := true } }
     (s.link.mode = .hunt → b ≠ 0xA5 → exec (.byteReceived b) s = .next s.seeHigh) ∧
     (s.link.mode = .hunt → b = 0xA5 → exec (.byteReceived b) s = .next (inMode (.frame []))) ∧
     (s.link.mode = .frame [] → (2 ≤ b.toNat ∧ b.toNat ≤ 250) →
       exec (.byteReceived b) s = .next (inMode (.frame [b]))) ∧
     (s.link.mode = .frame [] → ¬ (2 ≤ b.toNat ∧ b.toNat ≤ 250) →
       exec (.byteReceived b) s = .next (dropped s.seeHigh)) ∧
     (∀ (len : Byte) (rest : List Byte), s.link.mode = .frame (len :: rest) → 2 ≤ len.toNat → len.toNat ≤ 250 →
       (rest.length < len.toNat → exec (.byteReceived b) s = .next (inMode (.frame (len :: (rest ++ [b]))))) ∧
       (rest.length = len.toNat → exec (.byteReceived b) s = exec (.frameReceived (len :: (rest ++ [b]))) s)) ∧
     exec .framingError s = .next (dropped s.seeHigh)) ∧
  (∀ s : State, s.pins.nrst = true →
     (s.link.mode = .hunt → exec .interByteGapTimeout s = .next s) ∧
     (∀ taken : List Byte, s.link.mode = .frame taken →
       exec .interByteGapTimeout s = .next { s with link := { s.link with mode := .hunt, linkError := true } }))

/-- A link break (R164, R165), once RXD has been seen high (R179): the frame in progress and the waiting requests are
gone, every enabled channel has T and R 0 with its state, brake, F, direction and active on-ticks kept, the counting
units are disarmed and their lockouts cleared, the epoch advances, and LINK-BREAK is posted with the number of requests
discarded. Without a high level since the last reset or break there is none. -/
def Obligations.LinkBreakStopsTheDrive : Prop :=
  ∀ s : State,
    (s.pins.nrst = true → s.link.seenHigh = true →
      ∃ u : State, exec .linkBreak s = .next u ∧
        u = { s with
          pins := { s.pins with rxd := false }
          link := { s.link with mode := .hunt, seenHigh := false, requests := [] }
          chans := u.chans, counters := u.counters
          epoch := s.epoch + 1
          out := s.out.offer { kind := .linkBreak, source := 0, count := 1, overflow := false, epoch := s.epoch + 1,
                               stamp := s.now, detail := BitVec.ofNat 16 s.link.requests.length } } ∧
        (∀ c : ChanId, u.chan c = if (s.chan c).state = .off then s.chan c else
          { s.chan c with target := 0, ramped := 0, mag := 0, nextOn := 0 }) ∧
        (∀ k : UnitId, u.counter k = if (s.chan (chanOf k)).state = .off then s.counter k else
          (s.counter k).atRest)) ∧
    (s.pins.nrst = true → s.link.seenHigh = false →
      exec .linkBreak s = .next { s with pins := { s.pins with rxd := false } }) ∧
    (s.pins.nrst = true → exec .rxdReturnsHigh s =
      .next { s with pins := { s.pins with rxd := true }, link := { s.link with seenHigh := true } }) ∧
    (s.pins.nrst = false → exec .linkBreak s = .next { s with pins := { s.pins with rxd := false } } ∧
      exec .rxdReturnsHigh s = .next { s with pins := { s.pins with rxd := true } })

/-- The end of a frame that is not the reply of a waiting RESTART (R163): with both queues holding an entry the class
other than the last-served one goes; else the one entry there is; else the transmitter stays idle. Then the requests that
found no room are taken (R158). With nothing in transmission the command changes nothing (the model's choice, log 2). -/
def Obligations.TransmitterAlternates : Prop :=
  (∀ (s : State) (f : TxFrame), s.pins.nrst = true → s.out.sending = some f → s.restartReplyEnds = false →
    let idle : Outbox := { s.out with sending := none, sentTicks := 0 }
    let next (o : Outbox) : Answered := .next (State.takeAll { s with out := o })
    (s.out.replies = [] → s.out.events = [] → exec .frameTransmitted s = next idle) ∧
    (∀ (r : Reply) (rs : List Reply), s.out.replies = r :: rs → s.out.events = [] ∨ s.out.lastServed = .event →
      exec .frameTransmitted s = next { idle with replies := rs, sending := some (.reply r), lastServed := .reply }) ∧
    (∀ (e : EventRecord) (es : List EventRecord), s.out.events = e :: es →
      s.out.replies = [] ∨ s.out.lastServed = .reply →
      exec .frameTransmitted s = next { idle with events := es, sending := some (.event e), lastServed := .event })) ∧
  (∀ s : State, s.pins.nrst = true → s.out.sending = none → exec .frameTransmitted s = .next s) ∧
  (∀ s : State, s.link.requests = [] → s.takeAll = s) ∧
  (∀ (s : State) (r : Request) (rest : List Request), s.link.requests = r :: rest →
    (s.mayTake = true → s.takeAll = State.takeAll (State.take { s with link := { s.link with requests := rest } } r)) ∧
    (s.mayTake = false → s.takeAll = s))

/-- A frame sent is a good frame (R156, R171): the receiver's check, on the bytes after the start byte, gives back the
tag, the kind and the payload. A reply's body is its tag, its kind and its payload; an event's is tag 0, kind 0x7E and
the record of R172, low bytes first: kind 1 to 13, source, count, overflow mark, epoch, time stamp, detail. An event
frame is 16 bytes long. On the line a byte is a low start bit, its eight bits with the least significant first and a
high stop bit, 1 µs each, read back by the receiver, which discards a byte with a low stop bit (R155). TXD shows the
bit of the frame in transmission whose time it is, and rests high. -/
def Obligations.SentFramesAreGood : Prop :=
  (∀ r : Request, r.payload.length ≤ 248 →
    (lineFrame (r.tag :: r.kind :: r.payload)).head? = some 0xA5 ∧
    goodFrame (lineFrame (r.tag :: r.kind :: r.payload)).tail = some r) ∧
  (∀ r : Reply, (TxFrame.reply r).body = r.tag :: r.kind :: r.payload) ∧
  ([EventKind.ready, .guardTrip, .guardReleased, .holdExpired, .stall, .tally, .limit, .acqMissed, .acqDone, .window,
      .ringWatermark, .linkBreak, .countError].map EventKind.code = [1, 2, 3, 4, 5, 6, 7, 8, 9, 10, 11, 12, 13]) ∧
  (∀ e : EventRecord, (TxFrame.event e).body =
    [0, 0x7E, BitVec.ofNat 8 e.kind.code, BitVec.ofNat 8 e.source, BitVec.ofNat 8 e.count,
      if e.overflow then 1 else 0, e.epoch, e.stamp.extractLsb' 0 8, e.stamp.extractLsb' 8 8,
      e.stamp.extractLsb' 16 8, e.stamp.extractLsb' 24 8, e.detail.extractLsb' 0 8, e.detail.extractLsb' 8 8]) ∧
  (∀ e : EventRecord, (lineFrame (TxFrame.event e).body).length = 16 ∧
    (TxFrame.event e).lineTicks = 16 * 200) ∧
  (∀ b : Byte, byteLevels b = [false, b.getLsbD 0, b.getLsbD 1, b.getLsbD 2, b.getLsbD 3, b.getLsbD 4, b.getLsbD 5,
      b.getLsbD 6, b.getLsbD 7, true] ∧
    readLevels (byteLevels b) = some b ∧ readLevels ((byteLevels b).take 9 ++ [false]) = none) ∧
  (∀ s : State, s.out.sending = none → s.txd = [] ∧ s.txdLevel = true) ∧
  (∀ (s : State) (f : TxFrame) (i j : Nat) (b : Byte), s.out.sending = some f → (lineFrame f.body)[i]? = some b →
    j < 10 → s.out.sentTicks / 20 = 10 * i + j → (byteLevels b)[j]? = some s.txdLevel)

/-! ## The pulse unit -/

/-- A SET-CHANNEL payload (R84, R83, R173, R174): it passes the value check exactly when every selected field is in its
range and no undefined selection bit is set, and then each selected field, and no other, is written with its value. -/
def Obligations.SetChannelPayloadIsChecked : Prop :=
  ∀ p : List Byte,
    let sel (n : Nat) : Bool := (u16 p 1).testBit n
    let good : Prop :=
      u16 p 1 < 2048 ∧ (sel 0 → u8 p 3 ≤ 1) ∧ (sel 1 → 500 ≤ u16 p 4 ∧ u16 p 4 ≤ 4000) ∧ (sel 2 → u16 p 6 ≤ 200) ∧
      (sel 3 → 1 ≤ u16 p 8 ∧ u16 p 8 ≤ 1000) ∧ (sel 4 → 1 ≤ u16 p 10 ∧ u16 p 10 ≤ 1000) ∧
      (sel 5 → u16 p 12 ≤ 4095) ∧ (sel 7 → u16 p 15 ≤ 1000) ∧ (sel 8 → u8 p 17 ≤ 3) ∧
      (sel 9 → 1 ≤ u16 p 18 ∧ u16 p 18 ≤ 256) ∧ (sel 10 → 20 ≤ u16 p 20 ∧ u16 p 20 ≤ 2000)
    ((ChannelWrite.ofPayload p).isSome = true ↔ good) ∧
    (∀ w : ChannelWrite, ChannelWrite.ofPayload p = some w →
      w.enable = (if sel 0 then some (u8 p 3 == 1) else none) ∧
      w.period = (if sel 1 then some (u16 p 4) else none) ∧ w.minPulse = (if sel 2 then some (u16 p 6) else none) ∧
      w.maxBase = (if sel 3 then some (u16 p 8) else none) ∧ w.slewBase = (if sel 4 then some (u16 p 10) else none) ∧
      w.limitBase = (if sel 5 then some (u16 p 12) else none) ∧ w.gain = (if sel 6 then some (u8 p 14) else none) ∧
      w.relax = (if sel 7 then some (u16 p 15) else none) ∧
      w.rounding.map Rounding.code = (if sel 8 then some (u8 p 17) else none) ∧
      w.divider = (if sel 9 then some (u16 p 18) else none) ∧
      w.holdTime = (if sel 10 then some (u16 p 20) else none)) ∧
    (∀ (s : State) (tag : Byte), s.takesAtOnce → tag ≠ 0 → p.length = 22 → u8 p 0 < 4 → ¬ good →
      exec (.setChannel tag p) s = .next (s.seeHigh.pushReply
        { tag := tag, kind := 0x90, payload := [4, s.epoch, byteAt p 0] }))

/-- An accepted SET-CHANNEL that leaves the enable as it is (R84, R85, R111): the selected fields are written, the
period as pending, a divider with the centre count at 0, the hold time to the channel's group without touching a
running timer. A write of maximum, slew or limit forms the effective values afresh; one of those, of the minimum pulse
or of the rounding mode recomputes the magnitude (for the slew and for a limit above 0: log 16). That all selected
fields are written first, and one recompute follows, is the model's choice (log 11). The reply reads the channel back.
-/
def Obligations.SetChannelWritesFields : Prop :=
  ∀ (s : State) (tag : Byte) (p : List Byte) (c : ChanId) (w : ChannelWrite), s.takesAtOnce → tag ≠ 0 →
    p.length = 22 → u8 p 0 = c.val → ChannelWrite.ofPayload p = some w →
    (w.enable = none ∨ w.enable = some (decide ((s.chan c).state ≠ .off))) →
    ∃ u : State, exec (.setChannel tag p) s = .next (u.pushReply
        { tag := tag, kind := 0x90, payload := [0, s.epoch, BitVec.ofNat 8 c.val,
            BitVec.ofNat 8 (s.chan c).state.code, if (s.chan c).state = .off then 0 else 1] ++
          out16 (u.chan c).period ++ out16 ((u.chan c).pendingPeriod.getD (u.chan c).period) ++
          out16 (u.chan c).minPulse ++ out16 (u.chan c).maxBase ++ out16 (u.chan c).slewBase ++
          out16 (u.chan c).limitBase ++ out8 (u.chan c).gain ++ out16 (u.chan c).relax ++
          out8 (u.chan c).rounding.code ++ out16 (u.chan c).divider ++ out16 (u.hold (groupOf c)).time }) ∧
      u = { s.seeHigh with chans := u.chans, holds := u.holds, counters := u.counters } ∧
      (∀ d : ChanId, d ≠ c → u.chan d = s.chan d) ∧
      (∀ g : HoldGroup, u.hold g = if g = groupOf c then
        { time := w.holdTime.getD (s.hold g).time, left := (s.hold g).left } else s.hold g) ∧
      (let formed : Prop := (w.maxBase.isSome || w.slewBase.isSome || w.limitBase.isSome) = true
       (u.chan c).sameButMagnitude { s.chan c with
          pendingPeriod := w.period.or (s.chan c).pendingPeriod
          minPulse := w.minPulse.getD (s.chan c).minPulse
          maxBase := w.maxBase.getD (s.chan c).maxBase
          slewBase := w.slewBase.getD (s.chan c).slewBase
          limitBase := w.limitBase.getD (s.chan c).limitBase
          gain := w.gain.getD (s.chan c).gain
          relax := w.relax.getD (s.chan c).relax
          rounding := w.rounding.getD (s.chan c).rounding
          divider := w.divider.getD (s.chan c).divider
          centreCount := if w.divider.isSome then 0 else (s.chan c).centreCount
          fold := if (w.maxBase.isSome || w.slewBase.isSome || w.limitBase.isSome) && u.effLimit c == 0 then 0
                  else (s.chan c).fold } ∧
       (formed ∨ w.minPulse.isSome = true ∨ w.rounding.isSome = true → u.freshMagnitude c) ∧
       let written : State := { s.seeHigh with holds := u.holds }.setChan c { u.chan c with
         mag := (s.chan c).mag, nextOn := (s.chan c).nextOn
         limCurrent := (s.chan c).limCurrent, limCap := (s.chan c).limCap }
       (formed ∨ w.minPulse.isSome = true ∨ w.rounding.isSome = true → u = written.recompute c) ∧
       (¬ (formed ∨ w.minPulse.isSome = true ∨ w.rounding.isSome = true) → u = written ∧
          u.counters = s.counters ∧ (u.chan c).mag = (s.chan c).mag ∧ (u.chan c).nextOn = (s.chan c).nextOn ∧
          (u.chan c).limCurrent = (s.chan c).limCurrent ∧ (u.chan c).limCap = (s.chan c).limCap)) ∧
      (∀ k : UnitId, (u.counter k).sameCounts (s.counter k) ∧ (unitOf c ≠ some k → u.counter k = s.counter k))

/-- SET-CHANNEL with the enable (R90). An OFF channel, at zero, enters IDLE, or HALT under a COAST or BRAKE layer,
with its first boundary at that moment and a pending period in force. An enabled channel enters OFF: T, R, F, U, the
on-ticks, the brake and the centre count are cleared at once; direction, last feedback value and sticky flags are
kept. The other selected fields, the hold time among them, are written as well, before the transition (the model's
choice, log 11). That the pulse timer of a channel in OFF stands at 0, with no pulse marked, is the model's choice too
(log 31). -/
def Obligations.SetChannelSwitchesEnable : Prop :=
  ∀ (s : State) (tag : Byte) (p : List Byte) (c : ChanId) (w : ChannelWrite), s.takesAtOnce → tag ≠ 0 →
    p.length = 22 → u8 p 0 = c.val → ChannelWrite.ofPayload p = some w →
    ∃ u : State, exec (.setChannel tag p) s = .next (u.pushReply
        { tag := tag, kind := 0x90, payload := [0, s.epoch] ++ u.channelReport c }) ∧
      u = { s.seeHigh with chans := u.chans, holds := u.holds, counters := u.counters } ∧
      (∀ d : ChanId, d ≠ c → u.chan d = s.chan d) ∧
      (∀ g : HoldGroup, u.hold g = if g = groupOf c then
        { time := w.holdTime.getD (s.hold g).time, left := (s.hold g).left } else s.hold g) ∧
      (w.enable = some true → (s.chan c).state = .off → (s.chan c).atZero → (s.chan c).fold = 0 →
        u.chan c = { (s.chan c).written w with
          state := if s.layer c = .coast ∨ s.layer c = .brake then .halt else .idle
          period := (w.period.or (s.chan c).pendingPeriod).getD (s.chan c).period
          pendingPeriod := none, phase := 0, pulsed := false } ∧
        ∀ k : UnitId, u.counter k = s.counter k ∨ (unitOf c = some k ∧ u.counter k = (s.counter k).atRest)) ∧
      (w.enable = some false → (s.chan c).state ≠ .off →
        u.chan c = { (s.chan c).written w with
          state := .off, target := 0, ramped := 0, fold := 0, mag := 0, nextOn := 0, activeOn := 0
          brakeHeld := false, centreCount := 0, phase := 0, pulsed := false } ∧
        ∀ k : UnitId, u.counter k = if unitOf c = some k then (s.counter k).atRest else s.counter k)

/-- What a DRIVE carries and how its targets are clamped (R95, R174), and its three refusals in their order (R96): a stale
epoch, a named channel OFF, a non-zero target to a named channel in HALT. A refused DRIVE changes nothing. -/
def Obligations.DriveIsChecked : Prop :=
  (∀ (p : List Byte) (c : ChanId),
    let d := DriveRequest.ofPayload p
    d.names c = (byteAt p 0).getLsbD c.val ∧ d.epoch = byteAt p 1 ∧
    d.targets.get c = (byteAt p (3 + 2 * c.val) ++ byteAt p (2 + 2 * c.val)).toInt ∧
    d.target c = max (if c = 2 then 0 else -1000) (min 1000 (d.targets.get c))) ∧
  (∀ (s : State) (tag : Byte) (p : List Byte), s.takesAtOnce → tag ≠ 0 → p.length = 10 →
    let d := DriveRequest.ofPayload p
    let answer (result : Byte) : Answered := .next (s.seeHigh.pushReply
      { tag := tag, kind := 0x91, payload := [result, s.epoch] ++
          ([0, 1, 2, 3] : List ChanId).map (fun c => BitVec.ofNat 8 (s.chan c).state.code) })
    (d.epoch ≠ s.epoch → exec (.drive tag p) s = answer 6) ∧
    (d.epoch = s.epoch → (∃ c : ChanId, d.names c = true ∧ (s.chan c).state = .off) →
      exec (.drive tag p) s = answer 8) ∧
    (d.epoch = s.epoch → (∀ c : ChanId, d.names c = true → (s.chan c).state ≠ .off) →
      (∃ c : ChanId, d.names c = true ∧ (s.chan c).state = .halt ∧ d.target c ≠ 0) →
      exec (.drive tag p) s = answer 7))

/-- A DRIVE that passes the checks (R97, R91, R98): each named channel takes its clamped target, from IDLE with a
non-zero one it enters RUN with its brake released; R and the magnitude stay; the hold timer of every group with a
named channel is restarted; the result is CLAMPED if a named target was clamped. Nothing else changes. PC0, PC1 and
PC3 are the group MOTION, PC2 is BLADE. -/
def Obligations.DriveSetsTargets : Prop :=
  (∀ c : ChanId, groupOf c = (if c.val = 2 then .blade else .motion) ∧ groupIndex .motion = 0 ∧ groupIndex .blade = 1) ∧
  (∀ (s : State) (tag : Byte) (p : List Byte), s.takesAtOnce → tag ≠ 0 → p.length = 10 →
    let d := DriveRequest.ofPayload p
    d.epoch = s.epoch → (∀ c : ChanId, d.names c = true → (s.chan c).state ≠ .off) →
    (∀ c : ChanId, d.names c = true → (s.chan c).state = .halt → d.target c = 0) →
    ∃ u : State, exec (.drive tag p) s = .next (u.pushReply
        { tag := tag, kind := 0x91
          payload := [if ∃ c : ChanId, d.names c = true ∧ d.target c ≠ d.targets.get c then 1 else 0, s.epoch] ++
            ([0, 1, 2, 3] : List ChanId).map (fun c => BitVec.ofNat 8 (u.chan c).state.code) }) ∧
      u = { s.seeHigh with chans := u.chans, holds := u.holds } ∧
      (∀ c : ChanId, u.chan c =
        if d.names c = true then
          if (s.chan c).state = .idle ∧ d.target c ≠ 0
          then { s.chan c with target := d.target c, state := .run, brakeHeld := false }
          else { s.chan c with target := d.target c }
        else s.chan c) ∧
      (∀ g : HoldGroup, u.hold g =
        if ∃ c : ChanId, d.names c = true ∧ groupOf c = g then { s.hold g with left := (s.hold g).time } else s.hold g))

/-- STOP-ALL (R100): with option COAST 0 or BRAKE 1 every enabled channel has T, R, U and next on-ticks 0 at once, with
BRAKE its brake-held flag set, and keeps all else; its counting unit is disarmed; the epoch advances, and the reply
carries it. Any other option is refused BAD-ARG. -/
def Obligations.StopAllZeroesEnabledChannels : Prop :=
  ∀ (s : State) (tag b : Byte), s.takesAtOnce → tag ≠ 0 →
    (b = 0 ∨ b = 1 →
      ∃ u : State, exec (.stopAll tag [b]) s =
          .next (u.pushReply { tag := tag, kind := 0x92, payload := [0, s.epoch + 1] }) ∧
        u = { s.seeHigh with chans := u.chans, counters := u.counters, epoch := s.epoch + 1 } ∧
        (∀ c : ChanId, u.chan c = if (s.chan c).state = .off then s.chan c else
          { s.chan c with target := 0, ramped := 0, mag := 0, nextOn := 0
                          brakeHeld := if b = 1 then true else (s.chan c).brakeHeld }) ∧
        (∀ k : UnitId, u.counter k = if (s.chan (chanOf k)).state = .off then s.counter k else
          (s.counter k).atRest)) ∧
    (b ≠ 0 ∧ b ≠ 1 → exec (.stopAll tag [b]) s =
      .next (s.seeHigh.pushReply { tag := tag, kind := 0x92, payload := [4, s.epoch] }))

/-- SET-PROFILE (R109, R111, R175): the three overrides of one channel in one profile are written; only if that profile
is active are the channel's effective values formed afresh, F cleared where the effective limit is 0, and the magnitude
recomputed. An override out of range is refused BAD-ARG. SELECT-PROFILE (R110, R111): the profile becomes active and every
channel's effective values are formed afresh from it. Nothing else changes. -/
def Obligations.ProfilesReformEffectiveValues : Prop :=
  (∀ (s : State) (tag : Byte) (p : List Byte) (pf c : Fin 4), s.takesAtOnce → tag ≠ 0 → p.length = 8 →
     u8 p 0 = pf.val → u8 p 1 = c.val →
     (u16 p 2 ≤ 1000 ∧ u16 p 4 ≤ 1000 ∧ u16 p 6 ≤ 4095 →
       ∃ u : State, exec (.setProfile tag p) s = .next (u.pushReply
           { tag := tag, kind := 0x93
             payload := [0, s.epoch] ++ p ++ [BitVec.ofNat 8 s.activeProfile.val] }) ∧
         u = { s.seeHigh with profiles := u.profiles, chans := u.chans, counters := u.counters } ∧
         (∀ i d : Fin 4, (u.profiles.get i).get d =
           if i = pf ∧ d = c then { maximum := u16 p 2, slew := u16 p 4, limit := u16 p 6 }
           else (s.profiles.get i).get d) ∧
         (pf ≠ s.activeProfile → u.chans = s.chans ∧ u.counters = s.counters) ∧
         (pf = s.activeProfile →
           (∀ d : ChanId, d ≠ c → u.chan d = s.chan d) ∧ u.freshMagnitude c ∧
           (u.chan c).sameButMagnitude { s.chan c with fold := if u.effLimit c = 0 then 0 else (s.chan c).fold } ∧
           u = ({ s.seeHigh with profiles := u.profiles }.setChan c
             { s.chan c with fold := if u.effLimit c = 0 then 0 else (s.chan c).fold }).recompute c ∧
           (∀ k : UnitId, (u.counter k).sameCounts (s.counter k) ∧ (unitOf c ≠ some k → u.counter k = s.counter k)))) ∧
     (¬ (u16 p 2 ≤ 1000 ∧ u16 p 4 ≤ 1000 ∧ u16 p 6 ≤ 4095) →
       exec (.setProfile tag p) s = .next (s.seeHigh.pushReply
         { tag := tag, kind := 0x93, payload := [4, s.epoch, byteAt p 0, byteAt p 1] }))) ∧
  (∀ (s : State) (tag : Byte) (pf : Fin 4), s.takesAtOnce → tag ≠ 0 →
     ∃ u : State, exec (.selectProfile tag [BitVec.ofNat 8 pf.val]) s = .next (u.pushReply
         { tag := tag, kind := 0x94, payload := [0, s.epoch, BitVec.ofNat 8 pf.val] }) ∧
       u = { s.seeHigh with activeProfile := pf, chans := u.chans, counters := u.counters } ∧
       (∀ c : ChanId, u.freshMagnitude c ∧
         (u.chan c).sameButMagnitude { s.chan c with fold := if u.effLimit c = 0 then 0 else (s.chan c).fold }) ∧
       u = ([0, 1, 2, 3] : List ChanId).foldl State.recompute { s.seeHigh with
         activeProfile := pf
         chans := Vector.ofFn (fun c => { s.chan c with fold := if u.effLimit c = 0 then 0 else (s.chan c).fold }) } ∧
       (∀ k : UnitId, (u.counter k).sameCounts (s.counter k)))

/-- SNAPSHOT (R103, R175): the channel number, its state, the presence mask with a bit for each field that is not zero,
and those fields in the order of the bits. Nothing changes. -/
def Obligations.SnapshotReportsOneChannel : Prop :=
  ∀ (s : State) (tag : Byte) (c : ChanId), s.takesAtOnce → tag ≠ 0 →
    let v := s.chan c
    let cap : Nat := match s.layer c with
      | .cap gc => gc
      | _ => 0
    let fields : List (Bool × List Byte) :=
      [(v.target ≠ 0, outS16 v.target), (v.ramped ≠ 0, outS16 v.ramped), (v.fold ≠ 0, out16 v.fold),
       (v.mag ≠ 0, out16 v.mag), (v.nextOn ≠ 0, out16 v.nextOn), (v.activeOn ≠ 0, out16 v.activeOn),
       (s.effMax c ≠ 0, out16 (s.effMax c)), (s.effSlew c ≠ 0, out16 (s.effSlew c)),
       (s.effLimit c ≠ 0, out16 (s.effLimit c)), (v.lastFeedback ≠ 0, out16 v.lastFeedback.toNat),
       (cap ≠ 0, out16 cap), (v.direction = .rev, [1])]
    exec (.snapshot tag [BitVec.ofNat 8 c.val]) s = .next (s.seeHigh.pushReply
      { tag := tag, kind := 0x95
        payload := [0, s.epoch, BitVec.ofNat 8 c.val, BitVec.ofNat 8 v.state.code] ++
          out16 (fields.zipIdx.map (fun f => if f.1.1 then 2 ^ f.2 else 0)).sum ++
          (fields.filter (fun f => f.1)).flatMap (fun f => f.2) })

/-- The output pins (R86, R88): PWM is on only in RUN and DWELL (in IDLE off at once: log 18), for the active on-ticks
centred in the period; BRK only in IDLE with brake-held and in HALT under BRAKE or with brake-held; never both. -/
def Obligations.OutputsFollowState : Prop :=
  ∀ (s : State) (c : ChanId),
    let v := s.chan c
    (v.state = .off → s.pwm c = false ∧ s.brk c = false) ∧
    (v.state = .idle → s.pwm c = false ∧ s.brk c = v.brakeHeld) ∧
    (v.state = .halt → s.pwm c = false ∧ (s.layer c = .brake → s.brk c = true) ∧
      (s.layer c = .coast → s.brk c = v.brakeHeld)) ∧
    (v.state = .run ∨ v.state = .dwell → s.brk c = false ∧
      (s.pwm c = true ↔ (v.period - v.activeOn) / 2 ≤ v.phase ∧ v.phase < (v.period - v.activeOn) / 2 + v.activeOn)) ∧
    ¬ (s.pwm c = true ∧ s.brk c = true) ∧ s.dir c = v.direction

/-- The ramp step (R107), the four rounding modes (R121), and the magnitude (R118, R119): A = |R|, B = A less F, C the
least of B, the effective maximum and the guard cap, U = C unless C is below the minimum pulse. A recompute forms U and
the next on-ticks of its channel, sets the limited flags, and hands U to the channel's counting unit (R117, R148), which
PC3 has not. -/
def Obligations.DutyArithmetic : Prop :=
  (∀ (t r : Int) (slew : Nat), rampStep t r slew =
    if |t - r| ≤ slew then t else if r < t then r + slew else r - slew) ∧
  (∀ x d : Nat, 0 < d → d % 2 = 0 →
    let q := x / d
    let r := x % d
    roundDiv .rnu x d = (if r ≥ d / 2 then q + 1 else q) ∧
    roundDiv .rne x d = (if r > d / 2 ∨ (r = d / 2 ∧ q % 2 = 1) then q + 1 else q) ∧
    roundDiv .rdn x d = q ∧
    roundDiv .rod x d = (if r = 0 then q else if q % 2 = 0 then q + 1 else q)) ∧
  (∀ (v : Channel) (maximum : Nat) (cap : Option Nat),
    let a := v.ramped.natAbs
    let b := a - v.fold
    let m := min b maximum
    let level := min m (cap.getD m)
    let w := v.recomputed maximum cap
    w.mag = (if level < v.minPulse then 0 else level) ∧
    w.nextOn = roundDiv v.rounding (w.mag * v.period) 1000 ∧
    (w.limCurrent = true ↔ v.limCurrent = true ∨ (0 < v.fold ∧ 0 < a)) ∧
    (w.limCap = true ↔ v.limCap = true ∨ m < b ∨ level < m) ∧
    w.sameButMagnitude v) ∧
  (∀ (s : State) (c : ChanId),
    let cap : Option Nat := match s.layer c with
      | .cap gc => some gc
      | _ => none
    let w := (s.chan c).recomputed (s.effMax c) cap
    s.recompute c = match unitOf c with
      | some k => (s.setChan c w).setCounter k ((s.counter k).handed (s.chan c).mag w.mag s.now)
      | none => s.setChan c w)

/-- A ramp tick (R106, R107, R91, R92, R98, R99). First, which is w: each channel in RUN or DWELL makes its ramp step and,
if R moved, recomputes its magnitude; RUN with T and R 0 enters IDLE; RUN of a bidirectional channel whose R has the sign
against its direction enters DWELL; the hold timer of each group that was moving when the tick came falls by one. Then,
for each timer that reaches 0 so, the expiry: MOTION sets T to 0 on the enabled channels of PC0, PC1 and PC3 and leaves R;
BLADE sets T, R, U and next on-ticks of an enabled PC2 to 0 and its brake-held flag; the epoch advances, and HOLD-EXPIRED
is posted. When both expire, either goes first (log 4). -/
def Obligations.RampTickWork : Prop :=
  ∀ s : State, s.pins.nrst = true →
    let moving (g : HoldGroup) : Prop :=
      ∃ c : ChanId, groupOf c = g ∧ ((s.chan c).target ≠ 0 ∨ (s.chan c).ramped ≠ 0)
    let expires (g : HoldGroup) : Prop := moving g ∧ (s.hold g).left = 1
    let ramps (c : ChanId) : Prop := (s.chan c).state = .run ∨ (s.chan c).state = .dwell
    let r (c : ChanId) : Int := rampStep (s.chan c).target (s.chan c).ramped (s.effSlew c)
    let stepped (c : ChanId) : Channel :=
      if r c = (s.chan c).ramped then s.chan c
      else { s.chan c with ramped := r c }.recomputed (s.effMax c) (s.layer c).capOf
    let expired (g : HoldGroup) (a b : State) : Prop :=
      let code : Nat := if g = .motion then 0 else 1
      b = { a with
        chans := b.chans, counters := b.counters, epoch := a.epoch + 1
        out := a.out.offer { kind := .holdExpired, source := code, count := 1, overflow := false
                             epoch := a.epoch + 1, stamp := s.now, detail := BitVec.ofNat 16 code } } ∧
      (∀ c : ChanId, b.chan c =
        if groupOf c ≠ g ∨ (a.chan c).state = .off then a.chan c
        else if g = .motion then { a.chan c with target := 0 }
        else { a.chan c with target := 0, ramped := 0, mag := 0, nextOn := 0, brakeHeld := true }) ∧
      (∀ k : UnitId, b.counter k =
        if g = .blade ∧ k = 2 ∧ (a.chan 2).state ≠ .off then (a.counter k).atRest else a.counter k)
    ∃ w u : State, exec .rampTick s = .next u ∧
      w = { s with chans := w.chans, holds := w.holds, counters := w.counters } ∧
      (∀ g : HoldGroup, (w.hold g).time = (s.hold g).time ∧
        (moving g → (w.hold g).left = (s.hold g).left - 1) ∧ (¬ moving g → (w.hold g).left = (s.hold g).left)) ∧
      (∀ c : ChanId, (¬ ramps c → w.chan c = s.chan c) ∧
        (ramps c → w.chan c = { stepped c with
          state :=
            if (s.chan c).state = .dwell then .dwell
            else if (s.chan c).target = 0 ∧ r c = 0 then .idle
            else if c ≠ 2 ∧ ((s.chan c).direction = .fwd ∧ r c < 0 ∨ (s.chan c).direction = .rev ∧ 0 < r c) then .dwell
            else .run })) ∧
      (∀ k : UnitId,
        (¬ ramps (chanOf k) ∨ r (chanOf k) = (s.chan (chanOf k)).ramped → w.counter k = s.counter k) ∧
        (ramps (chanOf k) → r (chanOf k) ≠ (s.chan (chanOf k)).ramped →
          w.counter k = (s.counter k).handed (s.chan (chanOf k)).mag (stepped (chanOf k)).mag s.now)) ∧
      (¬ expires .motion → ¬ expires .blade → u = w) ∧
      (expires .motion → ¬ expires .blade → expired .motion w u) ∧
      (¬ expires .motion → expires .blade → expired .blade w u) ∧
      (expires .motion → expires .blade →
        ∃ v : State, (expired .motion { w with drawn := w.drawn + 1 } v ∧ expired .blade v u) ∨
          (expired .blade { w with drawn := w.drawn + 1 } v ∧ expired .motion v u))

/-- A hold expiry (R98, R99), at a tick at which the group is moving and its timer stands at 1: MOTION sets T to 0 on the
enabled channels of PC0, PC1 and PC3; BLADE sets T, R, U and next on-ticks of an enabled PC2 to 0 and its brake-held flag;
the epoch advances, then HOLD-EXPIRED is posted with the group as source and detail. At any other moment nothing. -/
def Obligations.HoldExpiryStopsGroup : Prop :=
  ∀ (s : State) (g : HoldGroup), s.pins.nrst = true →
    let moving : Prop := ∃ c : ChanId, groupOf c = g ∧ ((s.chan c).target ≠ 0 ∨ (s.chan c).ramped ≠ 0)
    let code : Nat := if g = .motion then 0 else 1
    (moving → (s.hold g).left = 1 →
      ∃ u : State, exec (.holdExpiry g) s = .next u ∧
        u = { s with
          chans := u.chans, holds := u.holds, counters := u.counters, epoch := s.epoch + 1
          out := s.out.offer { kind := .holdExpired, source := code, count := 1, overflow := false
                               epoch := s.epoch + 1, stamp := s.now, detail := BitVec.ofNat 16 code } } ∧
        (∀ h : HoldGroup, u.hold h = if h = g then { s.hold h with left := 0 } else s.hold h) ∧
        (∀ c : ChanId, u.chan c =
          if groupOf c ≠ g ∨ (s.chan c).state = .off then s.chan c
          else if g = .motion then { s.chan c with target := 0 }
          else { s.chan c with target := 0, ramped := 0, mag := 0, nextOn := 0, brakeHeld := true }) ∧
        (∀ k : UnitId, u.counter k =
          if g = .blade ∧ k = 2 ∧ (s.chan 2).state ≠ .off then (s.counter k).atRest else s.counter k)) ∧
    (¬ (moving ∧ (s.hold g).left = 1) → exec (.holdExpiry g) s = .next s)

/-- A period boundary of an enabled channel (R87, R93): a pending period comes into force with the next on-ticks
recomputed; in DWELL the decision is made; the active on-ticks take the next on-ticks, or 0 in DWELL; a period begins.
Without a pending period U, the next on-ticks and the sticky flags stay. An OFF channel has none. -/
def Obligations.PeriodBoundary : Prop :=
  ∀ (s : State) (c : ChanId), s.pins.nrst = true →
    ((s.chan c).state = .off → exec (.periodBoundary c) s = .next s) ∧
    ((s.chan c).state ≠ .off →
      ∃ u : State, exec (.periodBoundary c) s = .next u ∧
        u = { s with chans := u.chans, counters := u.counters } ∧
        (∀ d : ChanId, d ≠ c → u.chan d = s.chan d) ∧
        (∀ k : UnitId, (u.counter k).sameCounts (s.counter k) ∧
          ((s.chan c).pendingPeriod = none ∨ unitOf c ≠ some k → u.counter k = s.counter k)) ∧
        (let against : Prop := (s.chan c).direction = .fwd ∧ (s.chan c).ramped < 0 ∨
           (s.chan c).direction = .rev ∧ 0 < (s.chan c).ramped
         let stays : Prop := (s.chan c).state = .dwell ∧ against ∧ (s.chan c).pulsed = true
         let flips : Prop := (s.chan c).state = .dwell ∧ against ∧ (s.chan c).pulsed = false
         (u.chan c).sameButMagnitude { s.chan c with
           period := (s.chan c).pendingPeriod.getD (s.chan c).period
           pendingPeriod := none
           state := (u.chan c).state
           direction := (u.chan c).direction
           activeOn := (u.chan c).activeOn
           pulsed := decide ((u.chan c).activeOn ≠ 0)
           phase := 0 } ∧
         (stays → (u.chan c).state = .dwell ∧ (u.chan c).direction = (s.chan c).direction ∧ (u.chan c).activeOn = 0) ∧
         (flips → (u.chan c).state = .run ∧ (u.chan c).direction ≠ (s.chan c).direction ∧
           (u.chan c).activeOn = (u.chan c).nextOn) ∧
         (¬ stays → ¬ flips → (u.chan c).direction = (s.chan c).direction ∧
           (u.chan c).activeOn = (u.chan c).nextOn ∧
           (u.chan c).state = if (s.chan c).state = .dwell then .run else (s.chan c).state)) ∧
        ((s.chan c).pendingPeriod ≠ none → u.freshMagnitude c) ∧
        (∀ p : Nat, (s.chan c).pendingPeriod = some p →
          let w := (s.setChan c { s.chan c with period := p, pendingPeriod := none }).recompute c
          u.counters = w.counters ∧ (u.chan c).limCurrent = (w.chan c).limCurrent ∧
          (u.chan c).limCap = (w.chan c).limCap) ∧
        ((s.chan c).pendingPeriod = none →
          (u.chan c).mag = (s.chan c).mag ∧ (u.chan c).nextOn = (s.chan c).nextOn ∧
          (u.chan c).limCurrent = (s.chan c).limCurrent ∧ (u.chan c).limCap = (s.chan c).limCap))

/-- A feedback delivery (R76, R114 to R116): an OFF channel ignores it; any other records the value, moves F by the
rounded gain above the effective limit and by the relax step at or below it, recomputes the magnitude, and posts LIMIT
when F rose from 0. A complete round delivers the value at the element index of its feedback destination to the named
channel, and with no destination nothing (R75). -/
def Obligations.FeedbackMovesFold : Prop :=
  (∀ (s : State) (c : ChanId) (value : Count),
    let v := s.chan c
    let limit := s.effLimit c
    let fold : Nat :=
      if limit = 0 then 0
      else if value.toNat > limit then min 1000 (v.fold + roundDiv v.rounding ((value.toNat - limit) * v.gain) 16)
      else v.fold - v.relax
    (v.state = .off → s.deliver c value = s) ∧
    (v.state ≠ .off →
      let u := s.deliver c value
      u = { s with chans := u.chans, counters := u.counters
                   out := if v.fold = 0 ∧ fold ≠ 0 then s.out.offer
                       { kind := .limit, source := c.val, count := 1, overflow := false, epoch := s.epoch
                         stamp := s.now, detail := value.setWidth 16 } else s.out } ∧
      (∀ d : ChanId, d ≠ c → u.chan d = s.chan d) ∧ u.freshMagnitude c ∧
      (u.chan c).sameButMagnitude { v with lastFeedback := value, fold := fold } ∧
      (let w := (s.setChan c { v with lastFeedback := value, fold := fold }).recompute c
       u = if v.fold = 0 ∧ fold ≠ 0 then w.post .limit c.val (value.setWidth 16) else w) ∧
      (∀ k : UnitId, (u.counter k).sameCounts (s.counter k) ∧ (unitOf c ≠ some k → u.counter k = s.counter k)))) ∧
  (∀ (s : State) (f : Feedback) (values : List Count) (value : Count), values[f.element]? = some value →
    s.deliverRound (some f) values = s.deliver f.channel value) ∧
  (∀ (s : State) (values : List Count), s.deliverRound none values = s)

/-! ## Acquisition slots -/

/-- A DEFINE-ACQ payload (R1, R8, R170, R173, R176): it passes check 3 exactly when every field that is read is in its
range, a destination is present, a REPEATING definition names an anchor and the element indices are below the count; and
then the definition holds the fields as the layout gives them. -/
def Obligations.DefinitionPayloadIsChecked : Prop :=
  ∀ p : List Byte,
    let flag (n : Nat) : Bool := (u8 p 3).testBit n
    let count := u8 p 16
    ((Definition.ofPayload p).isSome = true ↔
      u8 p 1 < 8 ∧ (u8 p 2 < 12 ∨ u8 p 2 = 255) ∧ u8 p 3 < 16 ∧ (u16 p 6 = 0 ∨ 10 ≤ u16 p 6) ∧
      (u8 p 8 < 8 ∨ u8 p 8 = 255) ∧ (u8 p 9 = 255 ∨ (u8 p 9 < 4 ∧ u8 p 10 < count)) ∧
      (flag 2 = true → u8 p 11 < count ∧ u16 p 12 ≤ u16 p 14 ∧ u16 p 14 ≤ 4095) ∧ 1 ≤ count ∧ count ≤ 8 ∧
      (∀ i : Fin 8, i.val < count → u8 p (17 + i.val) < 12) ∧
      (u8 p 8 ≠ 255 ∨ u8 p 9 ≠ 255 ∨ flag 2 = true) ∧ (flag 0 = true → u8 p 2 ≠ 255)) ∧
    (∀ d : Definition, Definition.ofPayload p = some d →
      d.level.val = u8 p 1 ∧ d.anchor.map (fun a => a.val) = (if u8 p 2 = 255 then none else some (u8 p 2)) ∧
      d.repeating = flag 0 ∧ d.atomic = flag 1 ∧ d.rounds = u16 p 4 ∧ d.waitLimit = u16 p 6 ∧
      d.ring.map (fun n => n.val) = (if u8 p 8 = 255 then none else some (u8 p 8)) ∧
      d.feedback.map (fun f => (f.channel.val, f.element)) =
        (if u8 p 9 = 255 then none else some (u8 p 9, u8 p 10)) ∧
      d.window = (if flag 2 = true then
        some { element := u8 p 11, low := u16 p 12, high := u16 p 14, trip := flag 3 } else none) ∧
      d.elements.map (fun e => e.val) = (List.range count).map (fun i => u8 p (17 + i)))

/-- DEFINE-ACQ (R8, R9, R19): BUSY in WAITING, READY or CONVERTING; else BAD-ARG for a definition that fails its check;
else the new definition stands in IDLE with the run state of an unused slot, and nothing else changes. The reply carries
the state found. -/
def Obligations.DefineAcqWritesSlot : Prop :=
  ∀ (s : State) (tag : Byte) (p : List Byte) (x : SlotId), s.takesAtOnce → tag ≠ 0 → p.length = 25 →
    u8 p 0 = x.val →
    let found := (s.slot x).state
    let reply (result : Byte) : Reply :=
      { tag := tag, kind := 0xA0, payload := [result, s.epoch, byteAt p 0, BitVec.ofNat 8 found.code] }
    (found = .waiting ∨ found = .ready ∨ found = .converting →
      exec (.defineAcq tag p) s = .next (s.seeHigh.pushReply (reply 5))) ∧
    (found = .free ∨ found = .idle →
      (Definition.ofPayload p = none → exec (.defineAcq tag p) s = .next (s.seeHigh.pushReply (reply 4))) ∧
      (∀ d : Definition, Definition.ofPayload p = some d →
        exec (.defineAcq tag p) s = .next ((s.seeHigh.setSlot x
          { defn := d, state := .idle, cursor := 0, partials := [], sequence := 0, remaining := 0, roundTime := 0
            late := false, cancel := false, readySince := 0 }).pushReply (reply 0))))

/-- ARM-ACQ (R12, R15, R33, R38, R44, R50): BUSY but in IDLE. In IDLE the run is loaded; with anchor NONE the slot is
READY at the tail of its level; against a ONE-mode anchor with a banked firing it takes one and is READY at the
anchor's insert position; otherwise it is WAITING on the anchor's wait list, behind every slot of its own and of more
urgent levels. Then dispatch is made, within the request (R158, log 34), and what it posts is queued before the reply
(log 10). The reply reports the state the arming gave. -/
def Obligations.ArmAcqPlacesSlot : Prop :=
  (∀ (s : State) (tag : Byte) (x : SlotId), s.takesAtOnce → tag ≠ 0 →
    let v := s.slot x
    let number : Byte := BitVec.ofNat 8 x.val
    let loaded : Slot :=
      { v with remaining := if v.defn.repeating then v.defn.rounds else 0, late := false, cancel := false
               cursor := 0, partials := [] }
    let ready : State := s.seeHigh.setSlot x { loaded with state := .ready, readySince := s.now }
    let lvl := v.defn.level
    let reply (u : State) (code : Byte) : Answered :=
      .next (u.dispatch.pushReply { tag := tag, kind := 0xA1, payload := [0, s.epoch, number, code] })
    (v.state ≠ .idle → exec (.armAcq tag [number]) s = .next (s.seeHigh.pushReply
      { tag := tag, kind := 0xA1, payload := [5, s.epoch, number, BitVec.ofNat 8 v.state.code] })) ∧
    (v.state = .idle → v.defn.anchor = none →
      exec (.armAcq tag [number]) s = reply (ready.setLevel lvl (s.level lvl ++ [x])) 3) ∧
    (∀ a : AnchorId, v.state = .idle → v.defn.anchor = some a →
      (((s.anchor a).mode = .one ∧ 0 < (s.anchor a).bank) →
        exec (.armAcq tag [number]) s = reply ((ready.setAnchor a { s.anchor a with bank := (s.anchor a).bank - 1
          }).setLevel lvl (if (s.anchor a).insert = .tail then s.level lvl ++ [x] else x :: s.level lvl)) 3) ∧
      (¬ ((s.anchor a).mode = .one ∧ 0 < (s.anchor a).bank) →
        exec (.armAcq tag [number]) s = reply ((s.seeHigh.setSlot x { loaded with state := .waiting }).setAnchor a
          { s.anchor a with waitList := joinWait (fun y => (s.slot y).defn.level) x (s.anchor a).waitList }) 2))) ∧
  (∀ (levelOf : SlotId → Fin 8) (x : SlotId) (front back : List SlotId),
    (∀ y ∈ front, levelOf y ≤ levelOf x) → (∀ y ∈ back, levelOf x < levelOf y) →
    joinWait levelOf x (front ++ back) = front ++ x :: back)

/-- CANCEL-ACQ (R16, R17, R19): a WAITING slot leaves its wait list and a READY one its level, and either is IDLE with
cursor 0, no partial values and clear flags, the rest of its run state kept; a CONVERTING slot has its CANCEL flag
set; an IDLE one is left; a FREE one is refused BUSY. The reply carries the state found. With the converter IDLE,
which is at the moment of a firing or a yield, dispatch follows the removal of a READY slot (R41, R59, log 30), and
what it posts is queued before the reply (log 10). -/
def Obligations.CancelAcqBringsToRest : Prop :=
  ∀ (s : State) (tag : Byte) (x : SlotId), s.takesAtOnce → tag ≠ 0 →
    let v := s.slot x
    let rested : Slot := { v with state := .idle, cursor := 0, partials := [], late := false, cancel := false }
    let number : Byte := BitVec.ofNat 8 x.val
    let answer (u : State) (result code : Byte) : Prop :=
      exec (.cancelAcq tag [number]) s =
        .next (u.pushReply { tag := tag, kind := 0xA2, payload := [result, s.epoch, number, code] })
    (v.state = .free → answer s.seeHigh 5 0) ∧
    (v.state = .idle → answer s.seeHigh 0 1) ∧
    (∀ a : AnchorId, v.state = .waiting → v.defn.anchor = some a →
      answer ((s.seeHigh.setSlot x rested).setAnchor a
        { s.anchor a with waitList := (s.anchor a).waitList.erase x }) 0 2) ∧
    (v.state = .ready →
      answer ((s.seeHigh.setSlot x rested).setLevel v.defn.level ((s.level v.defn.level).erase x)).dispatch 0 3) ∧
    (v.state = .converting → answer (s.seeHigh.setSlot x { v with cancel := true }) 0 4)

/-- RELEASE-ACQ (R18): NO-SUCH above 31; in IDLE the definition is discarded and the slot is FREE with every run-state
field at the value it has there; in every other state BUSY, and nothing changes, but that the arrival shows RXD high
(logs 7 and 25). -/
def Obligations.ReleaseAcqFreesSlot : Prop :=
  ∀ (s : State) (tag b : Byte), s.takesAtOnce → tag ≠ 0 →
    (31 < b.toNat → exec (.releaseAcq tag [b]) s =
      .next (s.seeHigh.pushReply { tag := tag, kind := 0xA3, payload := [10, s.epoch, b] })) ∧
    (∀ x : SlotId, b.toNat = x.val →
      ((s.slot x).state = .idle → exec (.releaseAcq tag [b]) s =
        .next ((s.seeHigh.setSlot x
          { defn := { level := 0, anchor := none, elements := [], repeating := false, rounds := 0, waitLimit := 0
                      atomic := false, ring := none, feedback := none, window := none }
            state := .free, cursor := 0, partials := [], sequence := 0, remaining := 0, roundTime := 0
            late := false, cancel := false, readySince := 0 }).pushReply
          { tag := tag, kind := 0xA3, payload := [0, s.epoch, b, 1] })) ∧
      ((s.slot x).state ≠ .idle → exec (.releaseAcq tag [b]) s =
        .next (s.seeHigh.pushReply
          { tag := tag, kind := 0xA3, payload := [5, s.epoch, b, BitVec.ofNat 8 (s.slot x).state.code] })))

/-! ## Anchors, dispatch and the converter -/

/-- SET-ANCHOR (R28, R30, R39, R40, R177): each selected setting is written; ALL discards the bank; a divider goes to
the centre anchor's channel with its centre count at 0; a period starts the cadence one period from now, or stops it.
A value out of range, or a divider or period that is not the anchor's, is refused BAD-ARG. The reply reads the anchor
back, with 0 in a field that is not the anchor's (R40; between centre and cadence anchors the model's choice, log 33).
-/
def Obligations.SetAnchorWritesSettings : Prop :=
  ∀ (s : State) (tag : Byte) (p : List Byte) (a : AnchorId), s.takesAtOnce → tag ≠ 0 → p.length = 10 →
    u8 p 0 = a.val →
    let sel (n : Nat) : Bool := (u8 p 1).testBit n
    let good : Prop :=
      u8 p 1 < 16 ∧ (sel 0 = true → u8 p 2 ≤ 1) ∧ (sel 1 = true → u8 p 3 ≤ 1) ∧
      (sel 2 = true → a.val < 4 ∧ 1 ≤ u16 p 4 ∧ u16 p 4 ≤ 256) ∧
      (sel 3 = true → (4 ≤ a.val ∧ a.val < 8) ∧ (u32 p 6 = 0 ∨ (100 ≤ u32 p 6 ∧ u32 p 6 ≤ 1000000)))
    (¬ good → exec (.setAnchor tag p) s =
      .next (s.seeHigh.pushReply { tag := tag, kind := 0xA4, payload := [4, s.epoch, byteAt p 0] })) ∧
    (good → ∃ u : State, exec (.setAnchor tag p) s = .next (u.pushReply
        { tag := tag, kind := 0xA4, payload := [0, s.epoch, byteAt p 0] ++
          out8 (u.anchor a).mode.code ++ out8 (u.anchor a).insert.code ++ out8 (u.anchor a).bank ++
          out8 (s.anchor a).waitList.length ++
          (match centreOf a with
           | some c => out16 (u.chan c).divider
           | none => [0, 0]) ++
          (match cadenceOf a with
           | some k => out32 (u.cadences.get k).period ++ out32 (u.cadences.get k).due.toNat
           | none => [0, 0, 0, 0, 0, 0, 0, 0]) }) ∧
      u = { s.seeHigh with anchors := u.anchors, chans := u.chans, cadences := u.cadences } ∧
      (∀ b : AnchorId, u.anchor b = if b = a then
        { waitList := (s.anchor a).waitList
          mode := if sel 0 = true then (if u8 p 2 = 0 then .one else .all) else (s.anchor a).mode
          insert := if sel 1 = true then (if u8 p 3 = 0 then .tail else .head) else (s.anchor a).insert
          bank := if sel 0 = true ∧ u8 p 2 = 1 then 0 else (s.anchor a).bank } else s.anchor b) ∧
      (∀ c : ChanId, u.chan c = if c.val = a.val ∧ sel 2 = true then
        { s.chan c with divider := u16 p 4, centreCount := 0 } else s.chan c) ∧
      (∀ k : Fin 4, u.cadences.get k = if k.val + 4 = a.val ∧ sel 3 = true then
        { period := u32 p 6, due := if u32 p 6 = 0 then 0 else s.now + BitVec.ofNat 32 (u32 p 6) }
        else s.cadences.get k))

/-- A firing at an anchor (R34 to R36): in ONE mode it releases the head of the wait list, or with an empty list raises
the bank, to at most 3; in ALL mode it releases every slot of the list. Released slots are READY now, each in its own
level, behind the slots there with TAIL and ahead of them with HEAD, in their wait-list order. -/
def Obligations.AnchorsReleaseSlots : Prop :=
  ∀ (s : State) (a : AnchorId),
    let an := s.anchor a
    let u := s.fireAnchor a
    let released : List SlotId := if an.mode = .one then an.waitList.take 1 else an.waitList
    u = { s with slots := u.slots, anchors := u.anchors, ready := u.ready } ∧
    (∀ b : AnchorId, u.anchor b = if b = a then
      { an with waitList := if an.mode = .one then an.waitList.drop 1 else []
                bank := if an.mode = .one ∧ an.waitList = [] then min 3 (an.bank + 1) else an.bank } else s.anchor b) ∧
    (∀ x : SlotId, u.slot x =
      if x ∈ released then { s.slot x with state := .ready, readySince := s.now } else s.slot x) ∧
    (∀ l : Fin 8,
      let new := released.filter (fun x => (s.slot x).defn.level == l)
      u.level l = if an.insert = .tail then s.level l ++ new else new ++ s.level l)

/-- The moments of the anchors and of the wait limit. A midpoint of an enabled channel raises its centre count; at the
divider the count returns to 0 and the centre anchor fires (R27, R28); CENTRE_ANCHOR_FIRE is that midpoint alone (log
8). A cadence fires when its due time is reached, which then moves on by one period (R29). A wait limit that is over
sets LATE in place (R60, R61). At other moments nothing changes (log 2). A firing is the release, then dispatch; a
CANCEL-ACQ of the released slot that stands behind it finds the slot READY and removes it, and the converter stays
IDLE if nothing else is READY (R41, logs 30 and 34). The anchors are numbered CA0 to CA3, KA0 to KA3, TA0 to TA2, GA
(R25). -/
def Obligations.PacedMoments : Prop :=
  (∀ (c : ChanId) (k : Fin 4) (u : UnitId), (centreAnchor c).val = c.val ∧ (cadenceAnchor k).val = 4 + k.val ∧
    (tallyAnchor u).val = 8 + u.val ∧ guardAnchor = 11) ∧
  (∀ (s : State) (a : AnchorId), s.fire a = (s.fireAnchor a).settle) ∧
  (∀ (s : State) (a : AnchorId) (x : SlotId) (tag b : Byte) (rest : List Instr),
    s.pending = .cancelAcq tag [b] :: rest → s.takesAtOnce → tag ≠ 0 → b.toNat = x.val →
    ((s.fireAnchor a).slot x).state = .ready → s.fire a = s.fireAnchor a) ∧
  (∀ (s : State) (x : SlotId) (tag b : Byte), s.takesAtOnce → tag ≠ 0 → b.toNat = x.val →
    s.conv = none → (s.slot x).state = .ready → s.level (s.slot x).defn.level = [x] →
    (∀ l : Fin 8, l ≠ (s.slot x).defn.level → s.level l = []) →
    ∃ t : State, exec (.cancelAcq tag [b]) s = .next t ∧ t.conv = none ∧ (t.slot x).state = .idle ∧
      ∀ l : Fin 8, t.level l = []) ∧
  (∀ s : State, s.pins.nrst = true →
    (∀ c : ChanId,
      let v := s.chan c
      let fires : State := ((s.setChan c { v with centreCount := 0 }).fireAnchor (centreAnchor c)).settle
      (v.state = .off → exec (.periodMidpoint c) s = .next s ∧ exec (.centreAnchorFire c) s = .next s) ∧
      (v.state ≠ .off → v.divider ≤ v.centreCount + 1 →
        exec (.periodMidpoint c) s = .next fires ∧ exec (.centreAnchorFire c) s = .next fires) ∧
      (v.state ≠ .off → v.centreCount + 1 < v.divider →
        exec (.periodMidpoint c) s = .next (s.setChan c { v with centreCount := v.centreCount + 1 }) ∧
        exec (.centreAnchorFire c) s = .next s)) ∧
    (∀ k : Fin 4,
      let cad := s.cadences.get k
      (cad.period ≠ 0 ∧ (cad.due - s.now).toInt ≤ 0 →
        exec (.cadenceAnchorFire k) s = .next ((s.setCadence k
          { cad with due := cad.due + BitVec.ofNat 32 cad.period }).fireAnchor (cadenceAnchor k)).settle) ∧
      (¬ (cad.period ≠ 0 ∧ (cad.due - s.now).toInt ≤ 0) → exec (.cadenceAnchorFire k) s = .next s)) ∧
    (∀ x : SlotId,
      let v := s.slot x
      let elapsed : Prop := v.state = .ready ∧ v.cursor = 0 ∧ v.late = false ∧ v.defn.waitLimit ≠ 0 ∧
        (v.readySince + BitVec.ofNat 32 v.defn.waitLimit - s.now).toInt ≤ 0
      (elapsed → exec (.waitLimitExpiry x) s = .next (s.setSlot x { v with late := true })) ∧
      (¬ elapsed → exec (.waitLimitExpiry x) s = .next s)))

/-- Dispatch (R50 to R52): none while the converter converts or the queue is empty. Else it takes the head of the most
urgent non-empty level: with LATE clear the slot is CONVERTING and the element at its cursor starts, a round that
begins taking its time stamp; with LATE set the round is finished as missed and dispatch is made again. Where the next
command takes a CANCEL-ACQ of a READY slot, the dispatch is left to it (R41, R59, R65, logs 30 and 34). -/
def Obligations.DispatchTakesMostUrgent : Prop :=
  ∀ s : State,
    s.settle = (if s.cancelNext = true then s else s.dispatch) ∧
    (s.conv.isSome = true → s.dispatch = s) ∧
    ((∀ l : Fin 8, s.level l = []) → s.dispatch = s) ∧
    (∀ (l : Fin 8) (x : SlotId) (rest : List SlotId), s.conv = none → (∀ m : Fin 8, m < l → s.level m = []) →
      s.level l = x :: rest →
      ((s.slot x).late = true → s.dispatch = ((s.setLevel l rest).finishMissed x).dispatch) ∧
      (∀ e : Fin 12, (s.slot x).late = false → (s.slot x).defn.elements[(s.slot x).cursor]? = some e →
        s.dispatch = { s with
          ready := Table.put s.ready l rest
          slots := Table.put s.slots x { s.slot x with
            state := .converting, roundTime := if (s.slot x).cursor = 0 then s.now else (s.slot x).roundTime }
          conv := some { slot := x, channel := e, start := s.now, elapsed := 0 } }))

/-- An element completion (R17, R54 to R58). With CANCEL set the value and the round are discarded and the slot is
IDLE. Else the value is stored; with elements left a non-atomic slot yields to a READY slot of a more urgent level, to
the head of its own level, and any other goes straight on; after the last element the round is finished: ring entry,
feedback delivery, window check, closing and completion path. When the converter comes free, dispatch is made; where
the next command of the queue takes a CANCEL-ACQ of a READY slot, the dispatch is left to it (R59, logs 30 and 34),
and a yielded slot is resumed if no other slot is READY then. With the converter IDLE the command changes nothing (the
model's choice, log 2). -/
def Obligations.ConversionCompletes : Prop :=
  (∀ (s : State) (value : Count), s.pins.nrst = true →
    (s.conv = none → exec (.conversionComplete value) s = .next s) ∧
    (∀ cv : Conversion, s.conv = some cv →
      let x := cv.slot
      let v := s.slot x
      let stored : Slot := { v with cursor := v.cursor + 1, partials := v.partials ++ [value] }
      let urgent : Prop := ∃ m : Fin 8, m < v.defn.level ∧ s.level m ≠ []
      (v.cancel = true → exec (.conversionComplete value) s = .next (State.settle { (s.setSlot x
        { v with state := .idle, cursor := 0, partials := [], late := false, cancel := false }) with conv := none })) ∧
      (v.cancel = false → v.cursor + 1 < v.defn.elements.length → v.defn.atomic = false ∧ urgent →
        let yielded : State := { ((s.setSlot x { stored with state := .ready }).setLevel v.defn.level
          (x :: s.level v.defn.level)) with conv := none }
        exec (.conversionComplete value) s = .next yielded.settle) ∧
      (∀ e : Fin 12, v.cancel = false → v.defn.elements[v.cursor + 1]? = some e → ¬ (v.defn.atomic = false ∧ urgent) →
        exec (.conversionComplete value) s = .next { (s.setSlot x stored) with
          conv := some { slot := x, channel := e, start := s.now, elapsed := 0 } }) ∧
      (v.cancel = false → v.defn.elements.length ≤ v.cursor + 1 →
        let values := v.partials ++ [value]
        let written := s.writeRound v.defn.ring
          { slot := x, status := .complete, number := v.sequence, roundTime := v.roundTime, values := values }
        let checked := (written.deliverRound v.defn.feedback values).windowCheck x v.defn.window values
        exec (.conversionComplete value) s = .next (State.settle { checked.finishRound x with conv := none })))) ∧
  (∀ (s : State) (tag b : Byte) (rest : List Instr) (y : SlotId), s.pending = .cancelAcq tag [b] :: rest →
    s.takesAtOnce → tag ≠ 0 → b.toNat = y.val → (s.cancelNext = true ↔ (s.slot y).state = .ready)) ∧
  (∀ s : State, s.pending = [] → s.cancelNext = false) ∧
  (∀ (s : State) (x y : SlotId) (l : Fin 8), s.conv = none → (s.slot y).state = .ready →
    x ≠ y → (s.slot x).late = false → (s.slot x).cursor ≠ 0 → (s.slot y).defn.level < l → s.level l = [x] →
    s.level (s.slot y).defn.level = [y] → (∀ m : Fin 8, m ≠ l → m ≠ (s.slot y).defn.level → s.level m = []) →
    ∀ (tag b : Byte) (e : Fin 12), s.takesAtOnce → tag ≠ 0 → b.toNat = y.val →
      (s.slot x).defn.elements[(s.slot x).cursor]? = some e →
      ∃ t : State, exec (.cancelAcq tag [b]) s = .next t ∧
        t.conv = some { slot := x, channel := e, start := s.now, elapsed := 0 } ∧
        t.slot x = { s.slot x with state := .converting } ∧ (t.slot y).state = .idle)

/-- The finish of a round (R20 to R23, R63): the number is the sequence, which advances; cursor, partial values and flags
are cleared; ONE-SHOT goes to IDLE, a counted run whose rounds are done goes to IDLE with ACQ-DONE and that number, any
other REPEATING slot re-arms. A missed round writes a MISSED entry, sets the feedback-missed flag and posts ACQ-MISSED
before. -/
def Obligations.RoundsAreFinished : Prop :=
  (∀ (s : State) (x : SlotId),
    let v := s.slot x
    let closed : Slot :=
      { v with sequence := v.sequence + 1, cursor := 0, partials := [], late := false, cancel := false }
    let counted : Slot := { closed with remaining := v.remaining - 1 }
    (v.defn.repeating = false → s.finishRound x = s.setSlot x { closed with state := .idle }) ∧
    (v.defn.repeating = true → v.defn.rounds ≠ 0 → v.remaining ≤ 1 →
      s.finishRound x = (s.setSlot x { counted with state := .idle }).post .acqDone x.val v.sequence) ∧
    (∀ a : AnchorId, v.defn.repeating = true → v.defn.anchor = some a →
      (v.defn.rounds = 0 → s.finishRound x = (s.setSlot x closed).arm x a) ∧
      (v.defn.rounds ≠ 0 → 1 < v.remaining → s.finishRound x = (s.setSlot x counted).arm x a))) ∧
  (∀ (s : State) (x : SlotId),
    let v := s.slot x
    let timed := s.setSlot x { v with roundTime := s.now }
    let written := timed.writeRound v.defn.ring
      { slot := x, status := .missed, number := v.sequence, roundTime := s.now, values := [] }
    let flagged := match v.defn.feedback with
      | some f => written.setChan f.channel { written.chan f.channel with fbMissed := true }
      | none => written
    s.finishMissed x = (flagged.post .acqMissed x.val v.sequence).finishRound x)

/-! ## Result rings -/

/-- An entry joins a ring (R67, R69 to R71): with room it is the newest, and RING-WATERMARK is posted if the count rose to
the watermark; a full ring loses its oldest entry under OVERWRITE or the new one under KEEP and its overrun flag is set.
A window check (R80, R81): inside the inclusive bounds nothing; outside, WINDOW is posted with the value, and with the
trip option an enabled source W takes the condition: it trips if INACTIVE, posts GUARD-TRIP again if LATCHED. -/
def Obligations.RingEntriesAndWindows : Prop :=
  (∀ (s : State) (n : RingId) (e : RingEntry),
     let r := s.ring n
     (r.entries.length < 32 →
       s.writeRound (some n) e =
         let joined := s.setRing n { r with entries := r.entries ++ [e], writePos := (r.writePos + 1) % 32 }
         if r.entries.length + 1 = r.watermark then joined.post .ringWatermark n.val (BitVec.ofNat 16 r.watermark)
         else joined) ∧
     (32 ≤ r.entries.length → r.policy = .keep → s.writeRound (some n) e = s.setRing n { r with overrun := true }) ∧
     (32 ≤ r.entries.length → r.policy = .overwrite →
       s.writeRound (some n) e = s.setRing n { r with
         entries := r.entries.drop 1 ++ [e], overrun := true
         writePos := (r.writePos + 1) % 32, readPos := (r.readPos + 1) % 32 }) ∧
     s.writeRound none e = s) ∧
  (∀ (s : State) (x : SlotId) (w : Window) (values : List Count) (value : Count), values[w.element]? = some value →
     let posted := s.post .window x.val (value.setWidth 16)
     (s.windowCheck x none values = s) ∧
     (w.low ≤ value.toNat ∧ value.toNat ≤ w.high → s.windowCheck x (some w) values = s) ∧
     (¬ (w.low ≤ value.toNat ∧ value.toNat ≤ w.high) →
       s.windowCheck x (some w) values =
         if w.trip = true ∧ (s.source 11).enabled = true then
           match (s.source 11).state with
           | .inactive => (posted.setSource 11 { s.source 11 with state := .latched }).tripWork 11
           | .latched => posted.post .guardTrip 11 (s.epoch ++ BitVec.ofNat 8 (s.source 11).action.code)
           | _ => posted
         else posted))

/-- SET-RING (R72): NO-SUCH above 7; BAD-ARG for a policy that is neither or a watermark outside 1 to 32; else both are
written, entries and overrun flag are kept, and the reply carries policy, watermark and entry count. -/
def Obligations.SetRingWritesPolicyAndWatermark : Prop :=
  ∀ (s : State) (tag b policy watermark : Byte), s.takesAtOnce → tag ≠ 0 →
    let good : Prop := policy.toNat ≤ 1 ∧ 1 ≤ watermark.toNat ∧ watermark.toNat ≤ 32
    (7 < b.toNat → exec (.setRing tag [b, policy, watermark]) s =
      .next (s.seeHigh.pushReply { tag := tag, kind := 0xA5, payload := [10, s.epoch, b] })) ∧
    (b.toNat ≤ 7 → ¬ good → exec (.setRing tag [b, policy, watermark]) s =
      .next (s.seeHigh.pushReply { tag := tag, kind := 0xA5, payload := [4, s.epoch, b] })) ∧
    (∀ n : RingId, b.toNat = n.val → good → exec (.setRing tag [b, policy, watermark]) s =
      .next ((s.seeHigh.setRing n { s.ring n with
          policy := if policy = 0 then .overwrite else .keep, watermark := watermark.toNat }).pushReply
        { tag := tag, kind := 0xA5
          payload := [0, s.epoch, b, policy, watermark, BitVec.ofNat 8 (s.ring n).entries.length] }))

/-- READ-RING (R73, R177): a requested count of 0 or above 10 is refused BAD-ARG. Else the oldest entries, as many as
requested or held, leave the ring and stand in the reply, with the number that remains and the overrun flag as it was;
then the flag is cleared. -/
def Obligations.ReadRingRemovesOldest : Prop :=
  (∀ e : RingEntry, e.bytes =
    [BitVec.ofNat 8 (e.slot.val + if e.status = .missed then 128 else 0)] ++ out16 e.number.toNat ++
      out32 e.roundTime.toNat ++ [BitVec.ofNat 8 e.values.length] ++ e.values.flatMap (fun v => out16 v.toNat)) ∧
  (∀ (s : State) (tag k : Byte) (n : RingId), s.takesAtOnce → tag ≠ 0 →
    let number : Byte := BitVec.ofNat 8 n.val
    let r := s.ring n
    (k = 0 ∨ 10 < k.toNat → exec (.readRing tag [number, k]) s =
      .next (s.seeHigh.pushReply { tag := tag, kind := 0xA6, payload := [4, s.epoch, number] })) ∧
    (k ≠ 0 → k.toNat ≤ 10 → exec (.readRing tag [number, k]) s =
      .next ((s.seeHigh.setRing n { r with
          entries := r.entries.drop k.toNat, overrun := false
          readPos := (r.readPos + min k.toNat r.entries.length) % 32 }).pushReply
        { tag := tag, kind := 0xA6
          payload := [0, s.epoch, number, BitVec.ofNat 8 (min k.toNat r.entries.length)] ++
            (r.entries.take k.toNat).flatMap RingEntry.bytes ++
            [BitVec.ofNat 8 (r.entries.length - k.toNat), if r.overrun then 1 else 0] })))

/-! ## Guard sources -/

/-- SET-GUARD (R126, R127, R178): BUSY for a TRIPPED or LATCHED source; BAD-ARG for a value out of range, polarity and
qualification of an internal source not being read; else the configuration is written and the source stands INACTIVE,
unless it is an enabled pin source whose pin is asserted under the new polarity, which qualifies from now or, with
qualification 0, trips. The model's choices here: what a trip posts, and what the dispatch at GA posts, is queued
before the reply (log 10); that dispatch is made within the request (R158, log 34), an internal source holds and
reports active-low and qualification 0 (log 20), and a trip begins a new measure of its TRIPPED time (log 13). -/
def Obligations.SetGuardConfiguresSource : Prop :=
  ∀ (s : State) (tag : Byte) (p : List Byte) (n : SourceId), s.takesAtOnce → tag ≠ 0 → p.length = 7 → u8 p 0 = n.val →
    let v := s.source n
    let flag (i : Nat) : Bool := (u8 p 1).testBit i
    let isPin : Bool := decide (n.val < 8)
    let good : Prop := u8 p 1 < 16 ∧ (isPin = true → u8 p 2 ≤ 15) ∧ u8 p 3 ≤ 3 ∧ 1 ≤ u16 p 4 ∧ u16 p 4 ≤ 1000 ∧
      u8 p 6 < 16
    let refused (result : Byte) : Answered := .next (s.seeHigh.pushReply
      { tag := tag, kind := 0xB0, payload := [result, s.epoch, byteAt p 0, BitVec.ofNat 8 v.state.code] })
    (v.state = .tripped ∨ v.state = .latched → exec (.setGuard tag p) s = refused 5) ∧
    (v.state = .inactive ∨ v.state = .qualifying → ¬ good → exec (.setGuard tag p) s = refused 4) ∧
    (∀ action : Action, v.state = .inactive ∨ v.state = .qualifying → good → u8 p 3 = action.code →
      let w : Source := { v with
        enabled := flag 0, activeHigh := isPin && flag 1, qualification := if isPin then u8 p 2 else 0
        action := action, capValue := u16 p 4, mask := BitVec.ofNat 4 (u8 p 6)
        epochOption := flag 2, anchorOption := flag 3, state := .inactive }
      let asserted : Bool := flag 0 && (s.seeHigh.setSource n w).pinAsserted n
      let u : State :=
        if asserted = false then s.seeHigh.setSource n w
        else if w.qualification = 0 then
          (s.seeHigh.setSource n { w with state := .tripped, trippedSince := s.now, heldLong := false }).alone
            (fun t => t.tripWork n)
        else s.seeHigh.setSource n { w with state := .qualifying, qualStart := s.now }
      exec (.setGuard tag p) s = .next (u.pushReply
        { tag := tag, kind := 0xB0
          payload := [0, u.epoch, byteAt p 0, BitVec.ofNat 8 (u.source n).state.code,
              if isPin then byteAt p 1 else byteAt p 1 &&& 0xFD, BitVec.ofNat 8 w.qualification,
              byteAt p 3, byteAt p 4, byteAt p 5, byteAt p 6] }))

/-- CLEAR-TRIP (R137, R138): GUARD-ACTIVE for a TRIPPED source; OK with no change for INACTIVE and QUALIFYING; a
LATCHED source becomes INACTIVE and the layers of its channels are recomputed. An enabled pin source whose pin stands
asserted qualifies from now instead, or with qualification 0 trips at once with one recompute of the layers. The reply
carries the state found and the state left. The model's choices here: what a trip posts, and what the dispatch at GA
posts, is queued before the reply (log 10); that dispatch is made within the request (R158, log 34), and the measure
of the TRIPPED time begins anew (log 13). -/
def Obligations.ClearTripReleasesLatchedSource : Prop :=
  ∀ (s : State) (tag : Byte) (n : SourceId), s.takesAtOnce → tag ≠ 0 →
    let v := s.source n
    let number : Byte := BitVec.ofNat 8 n.val
    let answer (u : State) (result found left : Byte) : Prop :=
      exec (.clearTrip tag [number]) s = .next (u.pushReply
        { tag := tag, kind := 0xB1, payload := [result, u.epoch, number, found, left] })
    let cleared : Source := { v with state := .inactive, trippedSince := 0, heldLong := false }
    let sees : Prop := v.enabled = true ∧ s.pinAsserted n = true
    (v.state = .tripped → answer s.seeHigh 9 2 2) ∧
    (v.state = .inactive → answer s.seeHigh 0 0 0) ∧
    (v.state = .qualifying → answer s.seeHigh 0 1 1) ∧
    (v.state = .latched → ¬ sees → answer ((s.seeHigh.setSource n cleared).applyMask v.mask) 0 3 0) ∧
    (v.state = .latched → sees → v.qualification ≠ 0 →
      answer ((s.seeHigh.setSource n { cleared with state := .qualifying, qualStart := s.now }).applyMask v.mask) 0 3 1) ∧
    (v.state = .latched → sees → v.qualification = 0 →
      answer ((s.seeHigh.setSource n { cleared with state := .tripped, trippedSince := s.now }).alone
        (fun t => t.tripWork n)) 0 3 2)

/-- The pins (R128 to R130): the asserted level takes an enabled INACTIVE source to QUALIFYING from now, or with
qualification 0 trips it; the deasserted level takes QUALIFYING to INACTIVE with no event and TRIPPED to LATCHED with
GUARD-RELEASED and the milliseconds it stood TRIPPED; in other states the pin alone changes. A qualification that is over
trips the source if the pin is still asserted. GINn is source n (R125). The model's choices here: QUALIFICATION_EXPIRY at
another moment changes nothing (log 2), a TRIPPED time past 65,535 ms is marked (log 13), and a level sent again acts on
the source as it stands (log 29). -/
def Obligations.GuardPinsQualifyAndTrip : Prop :=
  (∀ g : Fin 8, (pinSource g).val = g.val) ∧
  (∀ (s : State) (g : Fin 8), s.pins.nrst = true →
    let n : SourceId := pinSource g
    let v := s.source n
    let pin (level : Bool) : State := { s with pins := { s.pins with gin := Table.put s.pins.gin g level } }
    let trips (t : State) : State :=
      (t.setSource n { v with state := .tripped, trippedSince := s.now, heldLong := false }).tripWork n
    (v.enabled = true → v.state = .inactive →
      (v.qualification = 0 → exec (.guardPinAssert g) s = .next (trips (pin v.activeHigh))) ∧
      (v.qualification ≠ 0 → exec (.guardPinAssert g) s =
        .next ((pin v.activeHigh).setSource n { v with state := .qualifying, qualStart := s.now }))) ∧
    (v.enabled = false ∨ v.state ≠ .inactive → exec (.guardPinAssert g) s = .next (pin v.activeHigh)) ∧
    (v.state = .qualifying →
      exec (.guardPinDeassert g) s = .next ((pin (!v.activeHigh)).setSource n { v with state := .inactive })) ∧
    (v.state = .tripped → exec (.guardPinDeassert g) s =
      .next (((pin (!v.activeHigh)).setSource n { v with state := .latched }).post .guardReleased g.val
        (BitVec.ofNat 16 (if v.heldLong then 65535 else min 65535 ((s.now - v.trippedSince).toNat / 1000))))) ∧
    (v.state = .inactive ∨ v.state = .latched → exec (.guardPinDeassert g) s = .next (pin (!v.activeHigh))) ∧
    (let elapsed : Prop := v.state = .qualifying ∧ s.pins.gin.get g = v.activeHigh ∧
       (v.qualStart + BitVec.ofNat 32 (v.qualification * 1000) - s.now).toInt ≤ 0
     (elapsed → exec (.qualificationExpiry g) s = .next (trips s)) ∧
     (¬ elapsed → exec (.qualificationExpiry g) s = .next s)))

/-- A trip's work (R133, R136, R140): GUARD-TRIP with the action and the epoch the trip leaves; then the layer of each
channel in the mask is handed to the channel; then the epoch option's advance; then the anchor option's firing (its
dispatch: logs 30 and 34). A layer with COAST or BRAKE halts an enabled channel at once, T, R, U and both on-ticks 0,
its counting unit disarmed, all else kept, the sticky flags among it (R94, R102, log 12); without, a halted channel is
IDLE. A channel that is OFF or not in the mask, and its counting unit, are not changed. -/
def Obligations.TripsActInOrder : Prop :=
  (∀ (s : State) (n : SourceId),
    let v := s.source n
    let left : BitVec 8 := if v.epochOption then s.epoch + 1 else s.epoch
    let applied := (s.post .guardTrip n.val (left ++ BitVec.ofNat 8 v.action.code)).applyMask v.mask
    s.tripWork n =
      if v.anchorOption = true then (State.fireAnchor { applied with epoch := left } 11).settle
      else { applied with epoch := left }) ∧
  (∀ (s : State) (mask : BitVec 4),
    let u := s.applyMask mask
    u = { s with chans := u.chans, counters := u.counters } ∧
    (∀ k : UnitId, mask.getLsbD (chanOf k).val = false ∨ (s.chan (chanOf k)).state = .off →
      u.counter k = s.counter k) ∧
    ∀ c : ChanId,
      let freed : Channel := { s.chan c with state := if (s.chan c).state = .halt then .idle else (s.chan c).state }
      (mask.getLsbD c.val = false ∨ (s.chan c).state = .off → u.chan c = s.chan c) ∧
      (mask.getLsbD c.val = true → (s.chan c).state ≠ .off →
        (s.layer c = .coast ∨ s.layer c = .brake →
          (u.chan c).state = .halt ∧ u.freshMagnitude c ∧
          ((s.chan c).state ≠ .halt →
            u.chan c = { s.chan c with
              state := .halt, target := 0, ramped := 0, mag := 0, nextOn := 0, activeOn := 0 } ∧
            ∀ k : UnitId, unitOf c = some k → u.counter k = (s.counter k).atRest) ∧
          ((s.chan c).state = .halt → u.chan c = (s.chan c).recomputed (s.effMax c) none ∧
            ∀ k : UnitId, unitOf c = some k →
              u.counter k = (s.counter k).handed (s.chan c).mag (u.chan c).mag s.now)) ∧
        (¬ (s.layer c = .coast ∨ s.layer c = .brake) →
          u.freshMagnitude c ∧ (u.chan c).sameButMagnitude { s.chan c with
            state := if (s.chan c).state = .halt then .idle else (s.chan c).state } ∧
          u.chan c = freed.recomputed (s.effMax c) (s.layer c).capOf ∧
          ∀ k : UnitId, unitOf c = some k →
            u.counter k = (s.counter k).handed (s.chan c).mag (u.chan c).mag s.now)))

/-- The guard layer of a channel (R112, R135): composed from the TRIPPED and LATCHED sources whose mask includes it, it is
the strongest action among them, and with CAP its cap is the smallest cap value of the CAP sources. That such sources are
enabled is a law that GuardLawsKept states (R125). -/
def Obligations.LayerIsStrongestAction : Prop :=
  ∀ (s : State) (c : ChanId),
    let acts (n : SourceId) (a : Action) : Prop := (s.source n).action = a ∧
      ((s.source n).state = .tripped ∨ (s.source n).state = .latched) ∧ (s.source n).mask.getLsbD c.val = true
    (s.layer c = .brake ↔ ∃ n, acts n .brake) ∧
    (s.layer c = .coast ↔ (∃ n, acts n .coast) ∧ ¬ ∃ n, acts n .brake) ∧
    (∀ gc : Nat, s.layer c = .cap gc ↔ (¬ ∃ n, acts n .brake ∨ acts n .coast) ∧
      (∃ n, acts n .cap ∧ (s.source n).capValue = gc) ∧ ∀ n, acts n .cap → gc ≤ (s.source n).capValue) ∧
    (s.layer c = .report ↔ (∃ n, acts n .report) ∧ ¬ ∃ n, acts n .brake ∨ acts n .coast ∨ acts n .cap) ∧
    (s.layer c = .empty ↔ ¬ ∃ n a, acts n a)

/-! ## Counting units -/

/-- The lines of the counting units (R144 to R147). A step to the next pair in the order 00, 10, 11, 01 adds 1 to the
position and one to the previous pair subtracts 1; a change of both lines sets the count-error flag and posts
COUNT-ERROR; TACH2 only adds. A counted edge restarts an armed unit's quiet interval (log 22) and adds 1 to the tally,
which at its limit returns to 0, posts TALLY and fires the tally anchor (its dispatch: logs 30 and 34). TALLY_WRAP is
a counted edge that does so (log 8), and at another moment changes nothing (log 2). -/
def Obligations.CountedEdgesMoveUnits : Prop :=
  (∀ d : Fin 2, (unitOfDecoder d).val = d.val) ∧
  (∀ (s : State) (u : UnitId) (up : Bool),
    let k := s.counter u
    let position : BitVec 32 := if up then k.position + 1 else k.position - 1
    let edge (tally : Nat) : State := s.setCounter u
      { k with position := position, tally := tally, quietStart := if k.armed then s.now else k.quietStart }
    (k.tallyLimit = 0 → s.countEdge u up = edge k.tally) ∧
    (k.tally + 1 < k.tallyLimit → s.countEdge u up = edge (k.tally + 1)) ∧
    (k.tallyLimit ≠ 0 → k.tallyLimit ≤ k.tally + 1 →
      s.countEdge u up =
        (((edge 0).post .tally u.val (position.setWidth 16)).fireAnchor (tallyAnchor u)).settle)) ∧
  (∀ (s : State) (d : Fin 2) (a b : Bool), s.pins.nrst = true →
    let last := (s.decoder d).last
    let lines : State := { s with pins := { s.pins with enc := Table.put s.pins.enc d { a, b } } }
    let moved : State := lines.setDecoder d { s.decoder d with last := { a, b } }
    (a = last.a → b = last.b → exec (.quadratureStep d a b) s = .next lines) ∧
    ((a = !last.b ∧ b = last.a) →
      exec (.quadratureStep d a b) s = .next (moved.countEdge (unitOfDecoder d) true)) ∧
    ((a = last.b ∧ b = !last.a) →
      exec (.quadratureStep d a b) s = .next (moved.countEdge (unitOfDecoder d) false)) ∧
    ((a = !last.a ∧ b = !last.b) →
      exec (.quadratureStep d a b) s = .next ((lines.setDecoder d { last := { a, b }, countError := true }).post
        .countError d.val ((s.counter (unitOfDecoder d)).position.setWidth 16)))) ∧
  (∀ s : State, s.pins.nrst = true → exec .tachEdge s = .next (s.countEdge 2 true)) ∧
  (∀ (s : State) (u : UnitId) (up : Bool), s.pins.nrst = true →
    let k := s.counter u
    let wraps : Prop := k.tallyLimit ≠ 0 ∧ k.tallyLimit ≤ k.tally + 1
    (¬ wraps → exec (.tallyWrap u up) s = .next s) ∧
    (∀ d : Fin 2, wraps → u = unitOfDecoder d →
      let last := (s.decoder d).last
      exec (.tallyWrap u up) s =
        if up then exec (.quadratureStep d (!last.b) last.a) s else exec (.quadratureStep d last.b (!last.a)) s) ∧
    (wraps → u = 2 → up = true → exec (.tallyWrap u up) s = exec .tachEdge s))

/-- Grace and stall (R148 to R150). A running grace that has elapsed arms the unit and starts its quiet interval, with
quiet time 0 as well (log 22). An expired quiet interval posts STALL with the channel's U, gives the stall source its
condition, and disarms the unit, with the lockout set if U is still above 0. What a recompute hands on: U of 0 disarms
and clears the lockout; a rise from 0 starts the grace, with grace 0 arms at once. At other moments nothing changes
(log 2). The condition of an internal source, S0 to S2 and W (R131, R132): a disabled source ignores it, an INACTIVE
one trips into LATCHED, a LATCHED one posts GUARD-TRIP again and does nothing more. Sn is source 8 + n, W is 11, CUn
watches PCn. -/
def Obligations.GraceArmsAndQuietStalls : Prop :=
  (∀ u : UnitId, (stallSource u).val = 8 + u.val ∧ windowSource = 11 ∧ (chanOf u).val = u.val ∧
    unitOf (chanOf u) = some u ∧ unitOf 3 = none) ∧
  (∀ (s : State) (n : SourceId), 8 ≤ n.val →
    let v := s.source n
    (v.enabled = false → s.internalCondition n = s) ∧
    (v.enabled = true → v.state = .inactive →
      s.internalCondition n = (s.setSource n { v with state := .latched }).tripWork n) ∧
    (v.enabled = true → v.state = .latched →
      s.internalCondition n = s.post .guardTrip n.val (s.epoch ++ BitVec.ofNat 8 v.action.code))) ∧
  (∀ (s : State) (u : UnitId), s.pins.nrst = true →
    let k := s.counter u
    let mag := (s.chan (chanOf u)).mag
    let grace : Prop := mag ≠ 0 ∧ k.armed = false ∧ k.lockout = false ∧
      (k.graceStart + BitVec.ofNat 32 (k.grace * 1000) - s.now).toInt ≤ 0
    let quiet : Prop := k.armed = true ∧ k.quiet ≠ 0 ∧
      (k.quietStart + BitVec.ofNat 32 (k.quiet * 1000) - s.now).toInt ≤ 0
    (grace → exec (.graceExpiry u) s = .next (s.setCounter u { k with armed := true, quietStart := s.now })) ∧
    (¬ grace → exec (.graceExpiry u) s = .next s) ∧
    (quiet →
      let taken := (s.post .stall u.val (BitVec.ofNat 16 mag)).internalCondition (stallSource u)
      exec (.stall u) s = .next (taken.setCounter u { taken.counter u with
        armed := false
        lockout := (taken.counter u).lockout || decide ((taken.chan (chanOf u)).mag ≠ 0) })) ∧
    (¬ quiet → exec (.stall u) s = .next s)) ∧
  (∀ (k : Counter) (before u : Nat) (now : Stamp),
    (u = 0 → k.handed before u now = { k with armed := false, lockout := false }) ∧
    (u ≠ 0 → before = 0 → k.armed = false → k.lockout = false →
      (k.grace = 0 → k.handed before u now = { k with graceStart := now, armed := true, quietStart := now }) ∧
      (k.grace ≠ 0 → k.handed before u now = { k with graceStart := now })) ∧
    (u ≠ 0 → before ≠ 0 ∨ k.armed = true ∨ k.lockout = true → k.handed before u now = k))

/-- SET-COUNTER (R151, R178): BAD-ARG for a quiet time or grace out of range; else the selected fields are written, a
tally limit not above the tally clears it, a quiet time restarts an armed unit's interval, and a running grace is
compared with a new grace at once. The reply reads the unit back. The order of the fields is the model's choice (log
26), and arming starts the quiet interval with quiet time 0 as well (log 22). -/
def Obligations.SetCounterWritesFields : Prop :=
  ∀ (s : State) (tag : Byte) (p : List Byte) (u : UnitId), s.takesAtOnce → tag ≠ 0 → p.length = 12 → u8 p 0 = u.val →
    let k := s.counter u
    let sel (n : Nat) : Bool := (u8 p 1).testBit n
    let good : Prop := u8 p 1 < 16 ∧ (sel 2 = true → u16 p 8 = 0 ∨ (10 ≤ u16 p 8 ∧ u16 p 8 ≤ 2000)) ∧
      (sel 3 = true → u16 p 10 ≤ 2000)
    let limit := if sel 1 = true then u16 p 6 else k.tallyLimit
    let w : Counter := { k with
      position := if sel 0 = true then BitVec.ofNat 32 (u32 p 2) else k.position
      tallyLimit := limit
      tally := if sel 1 = true ∧ limit ≤ k.tally then 0 else k.tally
      quiet := if sel 2 = true then u16 p 8 else k.quiet
      quietStart := if sel 2 = true ∧ k.armed = true ∧ u16 p 8 ≠ 0 then s.now else k.quietStart
      grace := if sel 3 = true then u16 p 10 else k.grace }
    let arms : Prop := sel 3 = true ∧ (s.chan (chanOf u)).mag ≠ 0 ∧ k.armed = false ∧ k.lockout = false ∧
      (k.graceStart + BitVec.ofNat 32 (w.grace * 1000) - s.now).toInt ≤ 0
    let left (v : Counter) : Answered := .next ((s.seeHigh.setCounter u v).pushReply
      { tag := tag, kind := 0xC0
        payload := [0, s.epoch, byteAt p 0] ++ out32 v.position.toNat ++ out16 v.tally ++ out16 v.tallyLimit ++
          out16 v.quiet ++ out16 v.grace ++ [if v.armed then 1 else 0] })
    (¬ good → exec (.setCounter tag p) s =
      .next (s.seeHigh.pushReply { tag := tag, kind := 0xC0, payload := [4, s.epoch, byteAt p 0] })) ∧
    (good → ¬ arms → exec (.setCounter tag p) s = left w) ∧
    (good → arms → exec (.setCounter tag p) s = left { w with armed := true, quietStart := s.now })

/-- READ-COUNTERS (R152, R178): for CU0, CU1 and CU2 the position, the tally, the armed flag and, for CU0 and CU1, the
count-error flag. Nothing changes, but that the arrival shows RXD high (logs 7 and 25). -/
def Obligations.ReadCountersReportsUnits : Prop :=
  ∀ (s : State) (tag : Byte), s.takesAtOnce → tag ≠ 0 →
    let unit (u : UnitId) (countError : Bool) : List Byte :=
      out32 (s.counter u).position.toNat ++ out16 (s.counter u).tally ++
        [BitVec.ofNat 8 ((if (s.counter u).armed then 1 else 0) + if countError then 2 else 0)]
    exec (.readCounters tag []) s = .next (s.seeHigh.pushReply
      { tag := tag, kind := 0xC1
        payload := [0, s.epoch] ++ unit 0 (s.decoders.get 0).countError ++ unit 1 (s.decoders.get 1).countError ++
          unit 2 false })

end Statements
end

