-- ==== Sys2Proof/Laws/State.lean ====
section
/-! SUPPORT. What each update of the state leaves as it was, one simp lemma for each update with one equation for each
field, and what a place of a table reads after it is written. All are true by rfl or by the lemmas of Vector. -/

namespace Sys2Proof

/-- A place just written reads as written. -/
@[simp] theorem Table.get_put_self {α : Type} {n : Nat} (v : Vector α n) (i : Fin n) (x : α) :
    (Table.put v i x).get i = x := by
  simp [Table.put, Vector.get_eq_getElem]

/-- Another place reads as before. -/
theorem Table.get_put_ne {α : Type} {n : Nat} (v : Vector α n) (i j : Fin n) (x : α) (h : i ≠ j) :
    (Table.put v i x).get j = v.get j := by
  have h' : i.val ≠ j.val := fun e => h (Fin.ext e)
  simp [Table.put, Vector.get_eq_getElem, Vector.getElem_set_ne, h']

/-- A place read after a write, in one equation. -/
theorem Table.get_put {α : Type} {n : Nat} (v : Vector α n) (i j : Fin n) (x : α) :
    (Table.put v i x).get j = if i = j then x else v.get j := by
  split
  · next h => subst h; exact Table.get_put_self v i x
  · next h => exact Table.get_put_ne v i j x h

/-- Writing a place with what it holds changes nothing. -/
theorem Table.put_get {α : Type} {n : Nat} (v : Vector α n) (i : Fin n) : Table.put v i (v.get i) = v := by
  simp [Table.put, Vector.get_eq_getElem]

/-- The later of two writes to one place stands. -/
@[simp] theorem Table.put_put {α : Type} {n : Nat} (v : Vector α n) (i : Fin n) (x y : α) :
    Table.put (Table.put v i x) i y = Table.put v i y := by
  simp [Table.put]

namespace Machine

/-! ## One place of a table of the state -/

theorem State.slot_setSlot (s : State) (i j : SlotId) (v : Slot) :
    (s.setSlot i v).slot j = if i = j then v else s.slot j := Table.get_put s.slots i j v
@[simp] theorem State.slot_setSlot_self (s : State) (i : SlotId) (v : Slot) : (s.setSlot i v).slot i = v :=
  Table.get_put_self s.slots i v
theorem State.slot_setSlot_ne (s : State) (i j : SlotId) (v : Slot) (h : i ≠ j) : (s.setSlot i v).slot j = s.slot j :=
  Table.get_put_ne s.slots i j v h

theorem State.anchor_setAnchor (s : State) (i j : AnchorId) (v : Anchor) :
    (s.setAnchor i v).anchor j = if i = j then v else s.anchor j := Table.get_put s.anchors i j v
@[simp] theorem State.anchor_setAnchor_self (s : State) (i : AnchorId) (v : Anchor) : (s.setAnchor i v).anchor i = v :=
  Table.get_put_self s.anchors i v
theorem State.anchor_setAnchor_ne (s : State) (i j : AnchorId) (v : Anchor) (h : i ≠ j) : (s.setAnchor i v).anchor j = s.anchor j :=
  Table.get_put_ne s.anchors i j v h

theorem State.level_setLevel (s : State) (i j : Fin 8) (v : List SlotId) :
    (s.setLevel i v).level j = if i = j then v else s.level j := Table.get_put s.ready i j v
@[simp] theorem State.level_setLevel_self (s : State) (i : Fin 8) (v : List SlotId) : (s.setLevel i v).level i = v :=
  Table.get_put_self s.ready i v
theorem State.level_setLevel_ne (s : State) (i j : Fin 8) (v : List SlotId) (h : i ≠ j) : (s.setLevel i v).level j = s.level j :=
  Table.get_put_ne s.ready i j v h

theorem State.ring_setRing (s : State) (i j : RingId) (v : Ring) :
    (s.setRing i v).ring j = if i = j then v else s.ring j := Table.get_put s.rings i j v
@[simp] theorem State.ring_setRing_self (s : State) (i : RingId) (v : Ring) : (s.setRing i v).ring i = v :=
  Table.get_put_self s.rings i v
theorem State.ring_setRing_ne (s : State) (i j : RingId) (v : Ring) (h : i ≠ j) : (s.setRing i v).ring j = s.ring j :=
  Table.get_put_ne s.rings i j v h

theorem State.chan_setChan (s : State) (i j : ChanId) (v : Channel) :
    (s.setChan i v).chan j = if i = j then v else s.chan j := Table.get_put s.chans i j v
@[simp] theorem State.chan_setChan_self (s : State) (i : ChanId) (v : Channel) : (s.setChan i v).chan i = v :=
  Table.get_put_self s.chans i v
theorem State.chan_setChan_ne (s : State) (i j : ChanId) (v : Channel) (h : i ≠ j) : (s.setChan i v).chan j = s.chan j :=
  Table.get_put_ne s.chans i j v h

theorem State.source_setSource (s : State) (i j : SourceId) (v : Source) :
    (s.setSource i v).source j = if i = j then v else s.source j := Table.get_put s.sources i j v
@[simp] theorem State.source_setSource_self (s : State) (i : SourceId) (v : Source) : (s.setSource i v).source i = v :=
  Table.get_put_self s.sources i v
theorem State.source_setSource_ne (s : State) (i j : SourceId) (v : Source) (h : i ≠ j) : (s.setSource i v).source j = s.source j :=
  Table.get_put_ne s.sources i j v h

theorem State.counter_setCounter (s : State) (i j : UnitId) (v : Counter) :
    (s.setCounter i v).counter j = if i = j then v else s.counter j := Table.get_put s.counters i j v
@[simp] theorem State.counter_setCounter_self (s : State) (i : UnitId) (v : Counter) : (s.setCounter i v).counter i = v :=
  Table.get_put_self s.counters i v
theorem State.counter_setCounter_ne (s : State) (i j : UnitId) (v : Counter) (h : i ≠ j) : (s.setCounter i v).counter j = s.counter j :=
  Table.get_put_ne s.counters i j v h

theorem State.decoder_setDecoder (s : State) (i j : Fin 2) (v : Decoder) :
    (s.setDecoder i v).decoder j = if i = j then v else s.decoder j := Table.get_put s.decoders i j v
@[simp] theorem State.decoder_setDecoder_self (s : State) (i : Fin 2) (v : Decoder) : (s.setDecoder i v).decoder i = v :=
  Table.get_put_self s.decoders i v
theorem State.decoder_setDecoder_ne (s : State) (i j : Fin 2) (v : Decoder) (h : i ≠ j) : (s.setDecoder i v).decoder j = s.decoder j :=
  Table.get_put_ne s.decoders i j v h

theorem State.cadence_setCadence (s : State) (i j : Fin 4) (v : Cadence) :
    (s.setCadence i v).cadences.get j = if i = j then v else s.cadences.get j := Table.get_put s.cadences i j v
theorem State.hold_setHold (s : State) (i j : Fin 2) (v : Hold) :
    (s.setHold i v).holds.get j = if i = j then v else s.holds.get j := Table.get_put s.holds i j v

/-! ## The fields an update leaves as they were -/

@[simp] theorem State.setSlot_frame (s : State) (i : SlotId) (v : Slot) :
    (s.setSlot i v).clock = s.clock ∧ (s.setSlot i v).pins = s.pins ∧ (s.setSlot i v).anchors = s.anchors ∧
    (s.setSlot i v).cadences = s.cadences ∧ (s.setSlot i v).ready = s.ready ∧ (s.setSlot i v).conv = s.conv ∧
    (s.setSlot i v).rings = s.rings ∧ (s.setSlot i v).chans = s.chans ∧ (s.setSlot i v).holds = s.holds ∧
    (s.setSlot i v).profiles = s.profiles ∧ (s.setSlot i v).activeProfile = s.activeProfile ∧
    (s.setSlot i v).sources = s.sources ∧ (s.setSlot i v).epoch = s.epoch ∧ (s.setSlot i v).counters = s.counters ∧
    (s.setSlot i v).decoders = s.decoders ∧ (s.setSlot i v).link = s.link ∧ (s.setSlot i v).out = s.out ∧
    (s.setSlot i v).pending = s.pending ∧ (s.setSlot i v).drawn = s.drawn := by
  and_intros <;> rfl

@[simp] theorem State.setAnchor_frame (s : State) (i : AnchorId) (v : Anchor) :
    (s.setAnchor i v).clock = s.clock ∧ (s.setAnchor i v).pins = s.pins ∧ (s.setAnchor i v).slots = s.slots ∧
    (s.setAnchor i v).cadences = s.cadences ∧ (s.setAnchor i v).ready = s.ready ∧ (s.setAnchor i v).conv = s.conv ∧
    (s.setAnchor i v).rings = s.rings ∧ (s.setAnchor i v).chans = s.chans ∧ (s.setAnchor i v).holds = s.holds ∧
    (s.setAnchor i v).profiles = s.profiles ∧ (s.setAnchor i v).activeProfile = s.activeProfile ∧
    (s.setAnchor i v).sources = s.sources ∧ (s.setAnchor i v).epoch = s.epoch ∧
    (s.setAnchor i v).counters = s.counters ∧ (s.setAnchor i v).decoders = s.decoders ∧
    (s.setAnchor i v).link = s.link ∧ (s.setAnchor i v).out = s.out ∧ (s.setAnchor i v).pending = s.pending ∧
    (s.setAnchor i v).drawn = s.drawn := by
  and_intros <;> rfl

@[simp] theorem State.setLevel_frame (s : State) (i : Fin 8) (v : List SlotId) :
    (s.setLevel i v).clock = s.clock ∧ (s.setLevel i v).pins = s.pins ∧ (s.setLevel i v).slots = s.slots ∧
    (s.setLevel i v).anchors = s.anchors ∧ (s.setLevel i v).cadences = s.cadences ∧ (s.setLevel i v).conv = s.conv ∧
    (s.setLevel i v).rings = s.rings ∧ (s.setLevel i v).chans = s.chans ∧ (s.setLevel i v).holds = s.holds ∧
    (s.setLevel i v).profiles = s.profiles ∧ (s.setLevel i v).activeProfile = s.activeProfile ∧
    (s.setLevel i v).sources = s.sources ∧ (s.setLevel i v).epoch = s.epoch ∧
    (s.setLevel i v).counters = s.counters ∧ (s.setLevel i v).decoders = s.decoders ∧
    (s.setLevel i v).link = s.link ∧ (s.setLevel i v).out = s.out ∧ (s.setLevel i v).pending = s.pending ∧
    (s.setLevel i v).drawn = s.drawn := by
  and_intros <;> rfl

@[simp] theorem State.setRing_frame (s : State) (i : RingId) (v : Ring) :
    (s.setRing i v).clock = s.clock ∧ (s.setRing i v).pins = s.pins ∧ (s.setRing i v).slots = s.slots ∧
    (s.setRing i v).anchors = s.anchors ∧ (s.setRing i v).cadences = s.cadences ∧ (s.setRing i v).ready = s.ready ∧
    (s.setRing i v).conv = s.conv ∧ (s.setRing i v).chans = s.chans ∧ (s.setRing i v).holds = s.holds ∧
    (s.setRing i v).profiles = s.profiles ∧ (s.setRing i v).activeProfile = s.activeProfile ∧
    (s.setRing i v).sources = s.sources ∧ (s.setRing i v).epoch = s.epoch ∧ (s.setRing i v).counters = s.counters ∧
    (s.setRing i v).decoders = s.decoders ∧ (s.setRing i v).link = s.link ∧ (s.setRing i v).out = s.out ∧
    (s.setRing i v).pending = s.pending ∧ (s.setRing i v).drawn = s.drawn := by
  and_intros <;> rfl

@[simp] theorem State.setChan_frame (s : State) (i : ChanId) (v : Channel) :
    (s.setChan i v).clock = s.clock ∧ (s.setChan i v).pins = s.pins ∧ (s.setChan i v).slots = s.slots ∧
    (s.setChan i v).anchors = s.anchors ∧ (s.setChan i v).cadences = s.cadences ∧ (s.setChan i v).ready = s.ready ∧
    (s.setChan i v).conv = s.conv ∧ (s.setChan i v).rings = s.rings ∧ (s.setChan i v).holds = s.holds ∧
    (s.setChan i v).profiles = s.profiles ∧ (s.setChan i v).activeProfile = s.activeProfile ∧
    (s.setChan i v).sources = s.sources ∧ (s.setChan i v).epoch = s.epoch ∧ (s.setChan i v).counters = s.counters ∧
    (s.setChan i v).decoders = s.decoders ∧ (s.setChan i v).link = s.link ∧ (s.setChan i v).out = s.out ∧
    (s.setChan i v).pending = s.pending ∧ (s.setChan i v).drawn = s.drawn := by
  and_intros <;> rfl

@[simp] theorem State.setSource_frame (s : State) (i : SourceId) (v : Source) :
    (s.setSource i v).clock = s.clock ∧ (s.setSource i v).pins = s.pins ∧ (s.setSource i v).slots = s.slots ∧
    (s.setSource i v).anchors = s.anchors ∧ (s.setSource i v).cadences = s.cadences ∧
    (s.setSource i v).ready = s.ready ∧ (s.setSource i v).conv = s.conv ∧ (s.setSource i v).rings = s.rings ∧
    (s.setSource i v).chans = s.chans ∧ (s.setSource i v).holds = s.holds ∧ (s.setSource i v).profiles = s.profiles ∧
    (s.setSource i v).activeProfile = s.activeProfile ∧ (s.setSource i v).epoch = s.epoch ∧
    (s.setSource i v).counters = s.counters ∧ (s.setSource i v).decoders = s.decoders ∧
    (s.setSource i v).link = s.link ∧ (s.setSource i v).out = s.out ∧ (s.setSource i v).pending = s.pending ∧
    (s.setSource i v).drawn = s.drawn := by
  and_intros <;> rfl

@[simp] theorem State.setCounter_frame (s : State) (i : UnitId) (v : Counter) :
    (s.setCounter i v).clock = s.clock ∧ (s.setCounter i v).pins = s.pins ∧ (s.setCounter i v).slots = s.slots ∧
    (s.setCounter i v).anchors = s.anchors ∧ (s.setCounter i v).cadences = s.cadences ∧
    (s.setCounter i v).ready = s.ready ∧ (s.setCounter i v).conv = s.conv ∧ (s.setCounter i v).rings = s.rings ∧
    (s.setCounter i v).chans = s.chans ∧ (s.setCounter i v).holds = s.holds ∧
    (s.setCounter i v).profiles = s.profiles ∧ (s.setCounter i v).activeProfile = s.activeProfile ∧
    (s.setCounter i v).sources = s.sources ∧ (s.setCounter i v).epoch = s.epoch ∧
    (s.setCounter i v).decoders = s.decoders ∧ (s.setCounter i v).link = s.link ∧ (s.setCounter i v).out = s.out ∧
    (s.setCounter i v).pending = s.pending ∧ (s.setCounter i v).drawn = s.drawn := by
  and_intros <;> rfl

@[simp] theorem State.setHold_frame (s : State) (i : Fin 2) (v : Hold) :
    (s.setHold i v).clock = s.clock ∧ (s.setHold i v).pins = s.pins ∧ (s.setHold i v).slots = s.slots ∧
    (s.setHold i v).anchors = s.anchors ∧ (s.setHold i v).cadences = s.cadences ∧ (s.setHold i v).ready = s.ready ∧
    (s.setHold i v).conv = s.conv ∧ (s.setHold i v).rings = s.rings ∧ (s.setHold i v).chans = s.chans ∧
    (s.setHold i v).profiles = s.profiles ∧ (s.setHold i v).activeProfile = s.activeProfile ∧
    (s.setHold i v).sources = s.sources ∧ (s.setHold i v).epoch = s.epoch ∧ (s.setHold i v).counters = s.counters ∧
    (s.setHold i v).decoders = s.decoders ∧ (s.setHold i v).link = s.link ∧ (s.setHold i v).out = s.out ∧
    (s.setHold i v).pending = s.pending ∧ (s.setHold i v).drawn = s.drawn := by
  and_intros <;> rfl

@[simp] theorem State.setDecoder_frame (s : State) (i : Fin 2) (v : Decoder) :
    (s.setDecoder i v).clock = s.clock ∧ (s.setDecoder i v).pins = s.pins ∧ (s.setDecoder i v).slots = s.slots ∧
    (s.setDecoder i v).anchors = s.anchors ∧ (s.setDecoder i v).cadences = s.cadences ∧
    (s.setDecoder i v).ready = s.ready ∧ (s.setDecoder i v).conv = s.conv ∧ (s.setDecoder i v).rings = s.rings ∧
    (s.setDecoder i v).chans = s.chans ∧ (s.setDecoder i v).holds = s.holds ∧
    (s.setDecoder i v).profiles = s.profiles ∧ (s.setDecoder i v).activeProfile = s.activeProfile ∧
    (s.setDecoder i v).sources = s.sources ∧ (s.setDecoder i v).epoch = s.epoch ∧
    (s.setDecoder i v).counters = s.counters ∧ (s.setDecoder i v).link = s.link ∧ (s.setDecoder i v).out = s.out ∧
    (s.setDecoder i v).pending = s.pending ∧ (s.setDecoder i v).drawn = s.drawn := by
  and_intros <;> rfl

@[simp] theorem State.setCadence_frame (s : State) (i : Fin 4) (v : Cadence) :
    (s.setCadence i v).clock = s.clock ∧ (s.setCadence i v).pins = s.pins ∧ (s.setCadence i v).slots = s.slots ∧
    (s.setCadence i v).anchors = s.anchors ∧ (s.setCadence i v).ready = s.ready ∧ (s.setCadence i v).conv = s.conv ∧
    (s.setCadence i v).rings = s.rings ∧ (s.setCadence i v).chans = s.chans ∧ (s.setCadence i v).holds = s.holds ∧
    (s.setCadence i v).profiles = s.profiles ∧ (s.setCadence i v).activeProfile = s.activeProfile ∧
    (s.setCadence i v).sources = s.sources ∧ (s.setCadence i v).epoch = s.epoch ∧
    (s.setCadence i v).counters = s.counters ∧ (s.setCadence i v).decoders = s.decoders ∧
    (s.setCadence i v).link = s.link ∧ (s.setCadence i v).out = s.out ∧ (s.setCadence i v).pending = s.pending ∧
    (s.setCadence i v).drawn = s.drawn := by
  and_intros <;> rfl

@[simp] theorem State.post_frame (s : State) (k : EventKind) (n : Nat) (d : BitVec 16) :
    (s.post k n d).clock = s.clock ∧ (s.post k n d).pins = s.pins ∧ (s.post k n d).slots = s.slots ∧
    (s.post k n d).anchors = s.anchors ∧ (s.post k n d).cadences = s.cadences ∧ (s.post k n d).ready = s.ready ∧
    (s.post k n d).conv = s.conv ∧ (s.post k n d).rings = s.rings ∧ (s.post k n d).chans = s.chans ∧
    (s.post k n d).holds = s.holds ∧ (s.post k n d).profiles = s.profiles ∧
    (s.post k n d).activeProfile = s.activeProfile ∧ (s.post k n d).sources = s.sources ∧
    (s.post k n d).epoch = s.epoch ∧ (s.post k n d).counters = s.counters ∧ (s.post k n d).decoders = s.decoders ∧
    (s.post k n d).link = s.link ∧ (s.post k n d).pending = s.pending ∧ (s.post k n d).drawn = s.drawn := by
  and_intros <;> rfl

@[simp] theorem State.pushReply_frame (s : State) (r : Reply) :
    (s.pushReply r).clock = s.clock ∧ (s.pushReply r).pins = s.pins ∧ (s.pushReply r).slots = s.slots ∧
    (s.pushReply r).anchors = s.anchors ∧ (s.pushReply r).cadences = s.cadences ∧ (s.pushReply r).ready = s.ready ∧
    (s.pushReply r).conv = s.conv ∧ (s.pushReply r).rings = s.rings ∧ (s.pushReply r).chans = s.chans ∧
    (s.pushReply r).holds = s.holds ∧ (s.pushReply r).profiles = s.profiles ∧
    (s.pushReply r).activeProfile = s.activeProfile ∧ (s.pushReply r).sources = s.sources ∧
    (s.pushReply r).epoch = s.epoch ∧ (s.pushReply r).counters = s.counters ∧ (s.pushReply r).decoders = s.decoders ∧
    (s.pushReply r).link = s.link ∧ (s.pushReply r).pending = s.pending ∧ (s.pushReply r).drawn = s.drawn := by
  and_intros <;> rfl

@[simp] theorem State.advanceEpoch_frame (s : State) :
    (s.advanceEpoch).clock = s.clock ∧ (s.advanceEpoch).pins = s.pins ∧ (s.advanceEpoch).slots = s.slots ∧
    (s.advanceEpoch).anchors = s.anchors ∧ (s.advanceEpoch).cadences = s.cadences ∧
    (s.advanceEpoch).ready = s.ready ∧ (s.advanceEpoch).conv = s.conv ∧ (s.advanceEpoch).rings = s.rings ∧
    (s.advanceEpoch).chans = s.chans ∧ (s.advanceEpoch).holds = s.holds ∧ (s.advanceEpoch).profiles = s.profiles ∧
    (s.advanceEpoch).activeProfile = s.activeProfile ∧ (s.advanceEpoch).sources = s.sources ∧
    (s.advanceEpoch).counters = s.counters ∧ (s.advanceEpoch).decoders = s.decoders ∧
    (s.advanceEpoch).link = s.link ∧ (s.advanceEpoch).out = s.out ∧ (s.advanceEpoch).pending = s.pending ∧
    (s.advanceEpoch).drawn = s.drawn := by
  and_intros <;> rfl

@[simp] theorem State.clearReportedFlags_frame (s : State) :
    (s.clearReportedFlags).clock = s.clock ∧ (s.clearReportedFlags).pins = s.pins ∧
    (s.clearReportedFlags).slots = s.slots ∧ (s.clearReportedFlags).anchors = s.anchors ∧
    (s.clearReportedFlags).cadences = s.cadences ∧ (s.clearReportedFlags).ready = s.ready ∧
    (s.clearReportedFlags).conv = s.conv ∧ (s.clearReportedFlags).rings = s.rings ∧
    (s.clearReportedFlags).holds = s.holds ∧ (s.clearReportedFlags).profiles = s.profiles ∧
    (s.clearReportedFlags).activeProfile = s.activeProfile ∧ (s.clearReportedFlags).sources = s.sources ∧
    (s.clearReportedFlags).epoch = s.epoch ∧ (s.clearReportedFlags).counters = s.counters ∧
    (s.clearReportedFlags).out = s.out ∧ (s.clearReportedFlags).pending = s.pending ∧
    (s.clearReportedFlags).drawn = s.drawn := by
  and_intros <;> rfl

@[simp] theorem State.setLinkError_frame (s : State) :
    (s.setLinkError).clock = s.clock ∧ (s.setLinkError).pins = s.pins ∧ (s.setLinkError).slots = s.slots ∧
    (s.setLinkError).anchors = s.anchors ∧ (s.setLinkError).cadences = s.cadences ∧
    (s.setLinkError).ready = s.ready ∧ (s.setLinkError).conv = s.conv ∧ (s.setLinkError).rings = s.rings ∧
    (s.setLinkError).chans = s.chans ∧ (s.setLinkError).holds = s.holds ∧ (s.setLinkError).profiles = s.profiles ∧
    (s.setLinkError).activeProfile = s.activeProfile ∧ (s.setLinkError).sources = s.sources ∧
    (s.setLinkError).epoch = s.epoch ∧ (s.setLinkError).counters = s.counters ∧
    (s.setLinkError).decoders = s.decoders ∧ (s.setLinkError).out = s.out ∧ (s.setLinkError).pending = s.pending ∧
    (s.setLinkError).drawn = s.drawn := by
  and_intros <;> rfl

@[simp] theorem State.setFeedbackMissed_frame (s : State) (c : ChanId) :
    (s.setFeedbackMissed c).clock = s.clock ∧ (s.setFeedbackMissed c).pins = s.pins ∧
    (s.setFeedbackMissed c).slots = s.slots ∧ (s.setFeedbackMissed c).anchors = s.anchors ∧
    (s.setFeedbackMissed c).cadences = s.cadences ∧ (s.setFeedbackMissed c).ready = s.ready ∧
    (s.setFeedbackMissed c).conv = s.conv ∧ (s.setFeedbackMissed c).rings = s.rings ∧
    (s.setFeedbackMissed c).holds = s.holds ∧ (s.setFeedbackMissed c).profiles = s.profiles ∧
    (s.setFeedbackMissed c).activeProfile = s.activeProfile ∧ (s.setFeedbackMissed c).sources = s.sources ∧
    (s.setFeedbackMissed c).epoch = s.epoch ∧ (s.setFeedbackMissed c).counters = s.counters ∧
    (s.setFeedbackMissed c).decoders = s.decoders ∧ (s.setFeedbackMissed c).link = s.link ∧
    (s.setFeedbackMissed c).out = s.out ∧ (s.setFeedbackMissed c).pending = s.pending ∧
    (s.setFeedbackMissed c).drawn = s.drawn := by
  and_intros <;> rfl

@[simp] theorem State.setOverrides_frame (s : State) (pf : Fin 4) (c : ChanId) (o : Overrides) :
    (s.setOverrides pf c o).clock = s.clock ∧ (s.setOverrides pf c o).pins = s.pins ∧
    (s.setOverrides pf c o).slots = s.slots ∧ (s.setOverrides pf c o).anchors = s.anchors ∧
    (s.setOverrides pf c o).cadences = s.cadences ∧ (s.setOverrides pf c o).ready = s.ready ∧
    (s.setOverrides pf c o).conv = s.conv ∧ (s.setOverrides pf c o).rings = s.rings ∧
    (s.setOverrides pf c o).chans = s.chans ∧ (s.setOverrides pf c o).holds = s.holds ∧
    (s.setOverrides pf c o).activeProfile = s.activeProfile ∧ (s.setOverrides pf c o).sources = s.sources ∧
    (s.setOverrides pf c o).epoch = s.epoch ∧ (s.setOverrides pf c o).counters = s.counters ∧
    (s.setOverrides pf c o).decoders = s.decoders ∧ (s.setOverrides pf c o).link = s.link ∧
    (s.setOverrides pf c o).out = s.out ∧ (s.setOverrides pf c o).pending = s.pending ∧
    (s.setOverrides pf c o).drawn = s.drawn := by
  and_intros <;> rfl

@[simp] theorem State.setGin_frame (s : State) (p : Fin 8) (level : Bool) :
    (s.setGin p level).clock = s.clock ∧ (s.setGin p level).slots = s.slots ∧
    (s.setGin p level).anchors = s.anchors ∧ (s.setGin p level).cadences = s.cadences ∧
    (s.setGin p level).ready = s.ready ∧ (s.setGin p level).conv = s.conv ∧ (s.setGin p level).rings = s.rings ∧
    (s.setGin p level).chans = s.chans ∧ (s.setGin p level).holds = s.holds ∧
    (s.setGin p level).profiles = s.profiles ∧ (s.setGin p level).activeProfile = s.activeProfile ∧
    (s.setGin p level).sources = s.sources ∧ (s.setGin p level).epoch = s.epoch ∧
    (s.setGin p level).counters = s.counters ∧ (s.setGin p level).decoders = s.decoders ∧
    (s.setGin p level).link = s.link ∧ (s.setGin p level).out = s.out ∧ (s.setGin p level).pending = s.pending ∧
    (s.setGin p level).drawn = s.drawn := by
  and_intros <;> rfl

@[simp] theorem State.setLines_frame (s : State) (d : Fin 2) (p : LinePair) :
    (s.setLines d p).clock = s.clock ∧ (s.setLines d p).slots = s.slots ∧ (s.setLines d p).anchors = s.anchors ∧
    (s.setLines d p).cadences = s.cadences ∧ (s.setLines d p).ready = s.ready ∧ (s.setLines d p).conv = s.conv ∧
    (s.setLines d p).rings = s.rings ∧ (s.setLines d p).chans = s.chans ∧ (s.setLines d p).holds = s.holds ∧
    (s.setLines d p).profiles = s.profiles ∧ (s.setLines d p).activeProfile = s.activeProfile ∧
    (s.setLines d p).sources = s.sources ∧ (s.setLines d p).epoch = s.epoch ∧
    (s.setLines d p).counters = s.counters ∧ (s.setLines d p).decoders = s.decoders ∧
    (s.setLines d p).link = s.link ∧ (s.setLines d p).out = s.out ∧ (s.setLines d p).pending = s.pending ∧
    (s.setLines d p).drawn = s.drawn := by
  and_intros <;> rfl

@[simp] theorem State.setNrst_frame (s : State) (level : Bool) :
    (s.setNrst level).clock = s.clock ∧ (s.setNrst level).slots = s.slots ∧ (s.setNrst level).anchors = s.anchors ∧
    (s.setNrst level).cadences = s.cadences ∧ (s.setNrst level).ready = s.ready ∧ (s.setNrst level).conv = s.conv ∧
    (s.setNrst level).rings = s.rings ∧ (s.setNrst level).chans = s.chans ∧ (s.setNrst level).holds = s.holds ∧
    (s.setNrst level).profiles = s.profiles ∧ (s.setNrst level).activeProfile = s.activeProfile ∧
    (s.setNrst level).sources = s.sources ∧ (s.setNrst level).epoch = s.epoch ∧
    (s.setNrst level).counters = s.counters ∧ (s.setNrst level).decoders = s.decoders ∧
    (s.setNrst level).link = s.link ∧ (s.setNrst level).out = s.out ∧ (s.setNrst level).pending = s.pending ∧
    (s.setNrst level).drawn = s.drawn := by
  and_intros <;> rfl

@[simp] theorem State.setRxd_frame (s : State) (level : Bool) :
    (s.setRxd level).clock = s.clock ∧ (s.setRxd level).slots = s.slots ∧ (s.setRxd level).anchors = s.anchors ∧
    (s.setRxd level).cadences = s.cadences ∧ (s.setRxd level).ready = s.ready ∧ (s.setRxd level).conv = s.conv ∧
    (s.setRxd level).rings = s.rings ∧ (s.setRxd level).chans = s.chans ∧ (s.setRxd level).holds = s.holds ∧
    (s.setRxd level).profiles = s.profiles ∧ (s.setRxd level).activeProfile = s.activeProfile ∧
    (s.setRxd level).sources = s.sources ∧ (s.setRxd level).epoch = s.epoch ∧
    (s.setRxd level).counters = s.counters ∧ (s.setRxd level).decoders = s.decoders ∧
    (s.setRxd level).link = s.link ∧ (s.setRxd level).out = s.out ∧ (s.setRxd level).pending = s.pending ∧
    (s.setRxd level).drawn = s.drawn := by
  and_intros <;> rfl

@[simp] theorem State.setRequests_frame (s : State) (l : List Request) :
    (s.setRequests l).clock = s.clock ∧ (s.setRequests l).pins = s.pins ∧ (s.setRequests l).slots = s.slots ∧
    (s.setRequests l).anchors = s.anchors ∧ (s.setRequests l).cadences = s.cadences ∧
    (s.setRequests l).ready = s.ready ∧ (s.setRequests l).conv = s.conv ∧ (s.setRequests l).rings = s.rings ∧
    (s.setRequests l).chans = s.chans ∧ (s.setRequests l).holds = s.holds ∧ (s.setRequests l).profiles = s.profiles ∧
    (s.setRequests l).activeProfile = s.activeProfile ∧ (s.setRequests l).sources = s.sources ∧
    (s.setRequests l).epoch = s.epoch ∧ (s.setRequests l).counters = s.counters ∧
    (s.setRequests l).decoders = s.decoders ∧ (s.setRequests l).out = s.out ∧ (s.setRequests l).pending = s.pending ∧
    (s.setRequests l).drawn = s.drawn := by
  and_intros <;> rfl

@[simp] theorem State.setReceiver_frame (s : State) (m : RxMode) :
    (s.setReceiver m).clock = s.clock ∧ (s.setReceiver m).pins = s.pins ∧ (s.setReceiver m).slots = s.slots ∧
    (s.setReceiver m).anchors = s.anchors ∧ (s.setReceiver m).cadences = s.cadences ∧
    (s.setReceiver m).ready = s.ready ∧ (s.setReceiver m).conv = s.conv ∧ (s.setReceiver m).rings = s.rings ∧
    (s.setReceiver m).chans = s.chans ∧ (s.setReceiver m).holds = s.holds ∧ (s.setReceiver m).profiles = s.profiles ∧
    (s.setReceiver m).activeProfile = s.activeProfile ∧ (s.setReceiver m).sources = s.sources ∧
    (s.setReceiver m).epoch = s.epoch ∧ (s.setReceiver m).counters = s.counters ∧
    (s.setReceiver m).decoders = s.decoders ∧ (s.setReceiver m).out = s.out ∧ (s.setReceiver m).pending = s.pending ∧
    (s.setReceiver m).drawn = s.drawn := by
  and_intros <;> rfl

@[simp] theorem State.awaitRestart_frame (s : State) :
    (s.awaitRestart).clock = s.clock ∧ (s.awaitRestart).pins = s.pins ∧ (s.awaitRestart).slots = s.slots ∧
    (s.awaitRestart).anchors = s.anchors ∧ (s.awaitRestart).cadences = s.cadences ∧
    (s.awaitRestart).ready = s.ready ∧ (s.awaitRestart).conv = s.conv ∧ (s.awaitRestart).rings = s.rings ∧
    (s.awaitRestart).chans = s.chans ∧ (s.awaitRestart).holds = s.holds ∧ (s.awaitRestart).profiles = s.profiles ∧
    (s.awaitRestart).activeProfile = s.activeProfile ∧ (s.awaitRestart).sources = s.sources ∧
    (s.awaitRestart).epoch = s.epoch ∧ (s.awaitRestart).counters = s.counters ∧
    (s.awaitRestart).decoders = s.decoders ∧ (s.awaitRestart).out = s.out ∧ (s.awaitRestart).pending = s.pending ∧
    (s.awaitRestart).drawn = s.drawn := by
  and_intros <;> rfl

@[simp] theorem State.seeHigh_frame (s : State) :
    (s.seeHigh).clock = s.clock ∧ (s.seeHigh).slots = s.slots ∧ (s.seeHigh).anchors = s.anchors ∧
    (s.seeHigh).cadences = s.cadences ∧ (s.seeHigh).ready = s.ready ∧ (s.seeHigh).conv = s.conv ∧
    (s.seeHigh).rings = s.rings ∧ (s.seeHigh).chans = s.chans ∧ (s.seeHigh).holds = s.holds ∧
    (s.seeHigh).profiles = s.profiles ∧ (s.seeHigh).activeProfile = s.activeProfile ∧
    (s.seeHigh).sources = s.sources ∧ (s.seeHigh).epoch = s.epoch ∧ (s.seeHigh).counters = s.counters ∧
    (s.seeHigh).decoders = s.decoders ∧ (s.seeHigh).out = s.out ∧ (s.seeHigh).pending = s.pending ∧
    (s.seeHigh).drawn = s.drawn := by
  and_intros <;> rfl

@[simp] theorem State.lineLow_frame (s : State) :
    (s.lineLow).clock = s.clock ∧ (s.lineLow).slots = s.slots ∧ (s.lineLow).anchors = s.anchors ∧
    (s.lineLow).cadences = s.cadences ∧ (s.lineLow).ready = s.ready ∧ (s.lineLow).conv = s.conv ∧
    (s.lineLow).rings = s.rings ∧ (s.lineLow).chans = s.chans ∧ (s.lineLow).holds = s.holds ∧
    (s.lineLow).profiles = s.profiles ∧ (s.lineLow).activeProfile = s.activeProfile ∧
    (s.lineLow).sources = s.sources ∧ (s.lineLow).epoch = s.epoch ∧ (s.lineLow).counters = s.counters ∧
    (s.lineLow).decoders = s.decoders ∧ (s.lineLow).out = s.out ∧ (s.lineLow).pending = s.pending ∧
    (s.lineLow).drawn = s.drawn := by
  and_intros <;> rfl

@[simp] theorem State.discardInput_frame (s : State) :
    (s.discardInput).clock = s.clock ∧ (s.discardInput).pins = s.pins ∧ (s.discardInput).slots = s.slots ∧
    (s.discardInput).anchors = s.anchors ∧ (s.discardInput).cadences = s.cadences ∧
    (s.discardInput).ready = s.ready ∧ (s.discardInput).conv = s.conv ∧ (s.discardInput).rings = s.rings ∧
    (s.discardInput).chans = s.chans ∧ (s.discardInput).holds = s.holds ∧ (s.discardInput).profiles = s.profiles ∧
    (s.discardInput).activeProfile = s.activeProfile ∧ (s.discardInput).sources = s.sources ∧
    (s.discardInput).epoch = s.epoch ∧ (s.discardInput).counters = s.counters ∧
    (s.discardInput).decoders = s.decoders ∧ (s.discardInput).out = s.out ∧ (s.discardInput).pending = s.pending ∧
    (s.discardInput).drawn = s.drawn := by
  and_intros <;> rfl

@[simp] theorem State.startElement_frame (s : State) (x : SlotId) :
    (s.startElement x).clock = s.clock ∧ (s.startElement x).pins = s.pins ∧ (s.startElement x).slots = s.slots ∧
    (s.startElement x).anchors = s.anchors ∧ (s.startElement x).cadences = s.cadences ∧
    (s.startElement x).ready = s.ready ∧ (s.startElement x).rings = s.rings ∧ (s.startElement x).chans = s.chans ∧
    (s.startElement x).holds = s.holds ∧ (s.startElement x).profiles = s.profiles ∧
    (s.startElement x).activeProfile = s.activeProfile ∧ (s.startElement x).sources = s.sources ∧
    (s.startElement x).epoch = s.epoch ∧ (s.startElement x).counters = s.counters ∧
    (s.startElement x).decoders = s.decoders ∧ (s.startElement x).link = s.link ∧ (s.startElement x).out = s.out ∧
    (s.startElement x).pending = s.pending ∧ (s.startElement x).drawn = s.drawn := by
  and_intros <;> rfl

@[simp] theorem State.withRest_frame (s : State) (l : List Instr) :
    (s.withRest l).clock = s.clock ∧ (s.withRest l).pins = s.pins ∧ (s.withRest l).slots = s.slots ∧
    (s.withRest l).anchors = s.anchors ∧ (s.withRest l).cadences = s.cadences ∧ (s.withRest l).ready = s.ready ∧
    (s.withRest l).conv = s.conv ∧ (s.withRest l).rings = s.rings ∧ (s.withRest l).chans = s.chans ∧
    (s.withRest l).holds = s.holds ∧ (s.withRest l).profiles = s.profiles ∧
    (s.withRest l).activeProfile = s.activeProfile ∧ (s.withRest l).sources = s.sources ∧
    (s.withRest l).epoch = s.epoch ∧ (s.withRest l).counters = s.counters ∧ (s.withRest l).decoders = s.decoders ∧
    (s.withRest l).link = s.link ∧ (s.withRest l).out = s.out ∧ (s.withRest l).drawn = s.drawn := by
  and_intros <;> rfl

/-! ## Work in which no command of the queue falls (R158) -/

@[simp] theorem State.alone_frame (s : State) (work : State → State) :
    (s.alone work).clock = (work { s with pending := [] }).clock ∧
    (s.alone work).pins = (work { s with pending := [] }).pins ∧
    (s.alone work).slots = (work { s with pending := [] }).slots ∧
    (s.alone work).anchors = (work { s with pending := [] }).anchors ∧
    (s.alone work).cadences = (work { s with pending := [] }).cadences ∧
    (s.alone work).ready = (work { s with pending := [] }).ready ∧
    (s.alone work).conv = (work { s with pending := [] }).conv ∧
    (s.alone work).rings = (work { s with pending := [] }).rings ∧
    (s.alone work).chans = (work { s with pending := [] }).chans ∧
    (s.alone work).holds = (work { s with pending := [] }).holds ∧
    (s.alone work).profiles = (work { s with pending := [] }).profiles ∧
    (s.alone work).activeProfile = (work { s with pending := [] }).activeProfile ∧
    (s.alone work).sources = (work { s with pending := [] }).sources ∧
    (s.alone work).epoch = (work { s with pending := [] }).epoch ∧
    (s.alone work).counters = (work { s with pending := [] }).counters ∧
    (s.alone work).decoders = (work { s with pending := [] }).decoders ∧
    (s.alone work).link = (work { s with pending := [] }).link ∧
    (s.alone work).out = (work { s with pending := [] }).out ∧ (s.alone work).pending = s.pending ∧
    (s.alone work).drawn = (work { s with pending := [] }).drawn := by
  and_intros <;> rfl

end Machine

end Sys2Proof
end

