-- ==== Sys2Proof/Laws/Duty.lean ====
section
/-! SUPPORT. What each operation of the duty computation leaves as it was (chapter 6). -/

namespace Sys2Proof.Machine

@[simp] theorem State.handMagnitude_frame (s : State) (c : ChanId) (b : Nat) (u : Nat) :
    (s.handMagnitude c b u).clock = s.clock ∧ (s.handMagnitude c b u).pins = s.pins ∧
    (s.handMagnitude c b u).slots = s.slots ∧ (s.handMagnitude c b u).anchors = s.anchors ∧
    (s.handMagnitude c b u).cadences = s.cadences ∧ (s.handMagnitude c b u).ready = s.ready ∧
    (s.handMagnitude c b u).conv = s.conv ∧ (s.handMagnitude c b u).rings = s.rings ∧
    (s.handMagnitude c b u).chans = s.chans ∧ (s.handMagnitude c b u).holds = s.holds ∧
    (s.handMagnitude c b u).profiles = s.profiles ∧ (s.handMagnitude c b u).activeProfile = s.activeProfile ∧
    (s.handMagnitude c b u).sources = s.sources ∧ (s.handMagnitude c b u).epoch = s.epoch ∧
    (s.handMagnitude c b u).decoders = s.decoders ∧ (s.handMagnitude c b u).link = s.link ∧
    (s.handMagnitude c b u).out = s.out ∧ (s.handMagnitude c b u).pending = s.pending ∧
    (s.handMagnitude c b u).drawn = s.drawn := by
  unfold State.handMagnitude
  split <;> simp

@[simp] theorem State.recompute_frame (s : State) (c : ChanId) :
    (s.recompute c).clock = s.clock ∧ (s.recompute c).pins = s.pins ∧ (s.recompute c).slots = s.slots ∧
    (s.recompute c).anchors = s.anchors ∧ (s.recompute c).cadences = s.cadences ∧ (s.recompute c).ready = s.ready ∧
    (s.recompute c).conv = s.conv ∧ (s.recompute c).rings = s.rings ∧ (s.recompute c).holds = s.holds ∧
    (s.recompute c).profiles = s.profiles ∧ (s.recompute c).activeProfile = s.activeProfile ∧
    (s.recompute c).sources = s.sources ∧ (s.recompute c).epoch = s.epoch ∧ (s.recompute c).decoders = s.decoders ∧
    (s.recompute c).link = s.link ∧ (s.recompute c).out = s.out ∧ (s.recompute c).pending = s.pending ∧
    (s.recompute c).drawn = s.drawn := by
  simp [State.recompute]

@[simp] theorem State.zeroDrive_frame (s : State) (c : ChanId) :
    (s.zeroDrive c).clock = s.clock ∧ (s.zeroDrive c).pins = s.pins ∧ (s.zeroDrive c).slots = s.slots ∧
    (s.zeroDrive c).anchors = s.anchors ∧ (s.zeroDrive c).cadences = s.cadences ∧ (s.zeroDrive c).ready = s.ready ∧
    (s.zeroDrive c).conv = s.conv ∧ (s.zeroDrive c).rings = s.rings ∧ (s.zeroDrive c).holds = s.holds ∧
    (s.zeroDrive c).profiles = s.profiles ∧ (s.zeroDrive c).activeProfile = s.activeProfile ∧
    (s.zeroDrive c).sources = s.sources ∧ (s.zeroDrive c).epoch = s.epoch ∧ (s.zeroDrive c).decoders = s.decoders ∧
    (s.zeroDrive c).link = s.link ∧ (s.zeroDrive c).out = s.out ∧ (s.zeroDrive c).pending = s.pending ∧
    (s.zeroDrive c).drawn = s.drawn := by
  simp [State.zeroDrive]

@[simp] theorem State.reformed_frame (s : State) (c : ChanId) :
    (s.reformed c).clock = s.clock ∧ (s.reformed c).pins = s.pins ∧ (s.reformed c).slots = s.slots ∧
    (s.reformed c).anchors = s.anchors ∧ (s.reformed c).cadences = s.cadences ∧ (s.reformed c).ready = s.ready ∧
    (s.reformed c).conv = s.conv ∧ (s.reformed c).rings = s.rings ∧ (s.reformed c).holds = s.holds ∧
    (s.reformed c).profiles = s.profiles ∧ (s.reformed c).activeProfile = s.activeProfile ∧
    (s.reformed c).sources = s.sources ∧ (s.reformed c).epoch = s.epoch ∧ (s.reformed c).decoders = s.decoders ∧
    (s.reformed c).link = s.link ∧ (s.reformed c).out = s.out ∧ (s.reformed c).pending = s.pending ∧
    (s.reformed c).drawn = s.drawn := by
  unfold State.reformed
  split <;> simp

@[simp] theorem State.enterHalt_frame (s : State) (c : ChanId) :
    (s.enterHalt c).clock = s.clock ∧ (s.enterHalt c).pins = s.pins ∧ (s.enterHalt c).slots = s.slots ∧
    (s.enterHalt c).anchors = s.anchors ∧ (s.enterHalt c).cadences = s.cadences ∧ (s.enterHalt c).ready = s.ready ∧
    (s.enterHalt c).conv = s.conv ∧ (s.enterHalt c).rings = s.rings ∧ (s.enterHalt c).holds = s.holds ∧
    (s.enterHalt c).profiles = s.profiles ∧ (s.enterHalt c).activeProfile = s.activeProfile ∧
    (s.enterHalt c).sources = s.sources ∧ (s.enterHalt c).epoch = s.epoch ∧ (s.enterHalt c).decoders = s.decoders ∧
    (s.enterHalt c).link = s.link ∧ (s.enterHalt c).out = s.out ∧ (s.enterHalt c).pending = s.pending ∧
    (s.enterHalt c).drawn = s.drawn := by
  simp [State.enterHalt]

@[simp] theorem State.applyLayer_frame (s : State) (c : ChanId) :
    (s.applyLayer c).clock = s.clock ∧ (s.applyLayer c).pins = s.pins ∧ (s.applyLayer c).slots = s.slots ∧
    (s.applyLayer c).anchors = s.anchors ∧ (s.applyLayer c).cadences = s.cadences ∧
    (s.applyLayer c).ready = s.ready ∧ (s.applyLayer c).conv = s.conv ∧ (s.applyLayer c).rings = s.rings ∧
    (s.applyLayer c).holds = s.holds ∧ (s.applyLayer c).profiles = s.profiles ∧
    (s.applyLayer c).activeProfile = s.activeProfile ∧ (s.applyLayer c).sources = s.sources ∧
    (s.applyLayer c).epoch = s.epoch ∧ (s.applyLayer c).decoders = s.decoders ∧ (s.applyLayer c).link = s.link ∧
    (s.applyLayer c).out = s.out ∧ (s.applyLayer c).pending = s.pending ∧ (s.applyLayer c).drawn = s.drawn := by
  unfold State.applyLayer
  split <;> simp

@[simp] theorem State.rampChannel_frame (s : State) (c : ChanId) :
    (s.rampChannel c).clock = s.clock ∧ (s.rampChannel c).pins = s.pins ∧ (s.rampChannel c).slots = s.slots ∧
    (s.rampChannel c).anchors = s.anchors ∧ (s.rampChannel c).cadences = s.cadences ∧
    (s.rampChannel c).ready = s.ready ∧ (s.rampChannel c).conv = s.conv ∧ (s.rampChannel c).rings = s.rings ∧
    (s.rampChannel c).holds = s.holds ∧ (s.rampChannel c).profiles = s.profiles ∧
    (s.rampChannel c).activeProfile = s.activeProfile ∧ (s.rampChannel c).sources = s.sources ∧
    (s.rampChannel c).epoch = s.epoch ∧ (s.rampChannel c).decoders = s.decoders ∧ (s.rampChannel c).link = s.link ∧
    (s.rampChannel c).out = s.out ∧ (s.rampChannel c).pending = s.pending ∧ (s.rampChannel c).drawn = s.drawn := by
  simp only [State.rampChannel]
  split <;> simp

@[simp] theorem State.decideState_frame (s : State) (c : ChanId) :
    (s.decideState c).clock = s.clock ∧ (s.decideState c).pins = s.pins ∧ (s.decideState c).slots = s.slots ∧
    (s.decideState c).anchors = s.anchors ∧ (s.decideState c).cadences = s.cadences ∧
    (s.decideState c).ready = s.ready ∧ (s.decideState c).conv = s.conv ∧ (s.decideState c).rings = s.rings ∧
    (s.decideState c).holds = s.holds ∧ (s.decideState c).profiles = s.profiles ∧
    (s.decideState c).activeProfile = s.activeProfile ∧ (s.decideState c).sources = s.sources ∧
    (s.decideState c).epoch = s.epoch ∧ (s.decideState c).counters = s.counters ∧
    (s.decideState c).decoders = s.decoders ∧ (s.decideState c).link = s.link ∧ (s.decideState c).out = s.out ∧
    (s.decideState c).pending = s.pending ∧ (s.decideState c).drawn = s.drawn := by
  simp [State.decideState]

@[simp] theorem State.tickChannel_frame (s : State) (c : ChanId) :
    (s.tickChannel c).clock = s.clock ∧ (s.tickChannel c).pins = s.pins ∧ (s.tickChannel c).slots = s.slots ∧
    (s.tickChannel c).anchors = s.anchors ∧ (s.tickChannel c).cadences = s.cadences ∧
    (s.tickChannel c).ready = s.ready ∧ (s.tickChannel c).conv = s.conv ∧ (s.tickChannel c).rings = s.rings ∧
    (s.tickChannel c).holds = s.holds ∧ (s.tickChannel c).profiles = s.profiles ∧
    (s.tickChannel c).activeProfile = s.activeProfile ∧ (s.tickChannel c).sources = s.sources ∧
    (s.tickChannel c).epoch = s.epoch ∧ (s.tickChannel c).decoders = s.decoders ∧ (s.tickChannel c).link = s.link ∧
    (s.tickChannel c).out = s.out ∧ (s.tickChannel c).pending = s.pending ∧ (s.tickChannel c).drawn = s.drawn := by
  unfold State.tickChannel
  split <;> simp

@[simp] theorem State.postLimit_frame (s : State) (c : ChanId) (b : Nat) (e : Nat) (v : Count) :
    (s.postLimit c b e v).clock = s.clock ∧ (s.postLimit c b e v).pins = s.pins ∧
    (s.postLimit c b e v).slots = s.slots ∧ (s.postLimit c b e v).anchors = s.anchors ∧
    (s.postLimit c b e v).cadences = s.cadences ∧ (s.postLimit c b e v).ready = s.ready ∧
    (s.postLimit c b e v).conv = s.conv ∧ (s.postLimit c b e v).rings = s.rings ∧
    (s.postLimit c b e v).chans = s.chans ∧ (s.postLimit c b e v).holds = s.holds ∧
    (s.postLimit c b e v).profiles = s.profiles ∧ (s.postLimit c b e v).activeProfile = s.activeProfile ∧
    (s.postLimit c b e v).sources = s.sources ∧ (s.postLimit c b e v).epoch = s.epoch ∧
    (s.postLimit c b e v).counters = s.counters ∧ (s.postLimit c b e v).decoders = s.decoders ∧
    (s.postLimit c b e v).link = s.link ∧ (s.postLimit c b e v).pending = s.pending ∧
    (s.postLimit c b e v).drawn = s.drawn := by
  unfold State.postLimit
  split <;> simp

@[simp] theorem State.deliver_frame (s : State) (c : ChanId) (v : Count) :
    (s.deliver c v).clock = s.clock ∧ (s.deliver c v).pins = s.pins ∧ (s.deliver c v).slots = s.slots ∧
    (s.deliver c v).anchors = s.anchors ∧ (s.deliver c v).cadences = s.cadences ∧ (s.deliver c v).ready = s.ready ∧
    (s.deliver c v).conv = s.conv ∧ (s.deliver c v).rings = s.rings ∧ (s.deliver c v).holds = s.holds ∧
    (s.deliver c v).profiles = s.profiles ∧ (s.deliver c v).activeProfile = s.activeProfile ∧
    (s.deliver c v).sources = s.sources ∧ (s.deliver c v).epoch = s.epoch ∧ (s.deliver c v).decoders = s.decoders ∧
    (s.deliver c v).link = s.link ∧ (s.deliver c v).pending = s.pending ∧ (s.deliver c v).drawn = s.drawn := by
  simp only [State.deliver]
  split <;> simp

/-! ## What a recompute with R 0, and with it the entry into HALT, does -/

/-- A recompute with R 0 gives U and next on-ticks 0, whatever the ceilings, and sets no sticky flag (R118, R119). -/
theorem Channel.recomputed_of_ramped_zero (v : Channel) (maximum : Nat) (cap : Option Nat) (h : v.ramped = 0) :
    v.recomputed maximum cap = { v with mag := 0, nextOn := 0 } := by
  have hb : levelAfterFold v = 0 := by simp [levelAfterFold, h]
  have hu : magnitudeOf v maximum cap = 0 := by
    cases cap <;> simp [magnitudeOf, levelAfterCeilings, hb]
  have hn : roundDiv v.rounding 0 1000 = 0 := by
    cases v.rounding <;> simp [roundDiv]
  have hc : limitedByCap 0 maximum cap = false := by cases cap <;> simp [limitedByCap]
  simp [Channel.recomputed, hu, hn, hb, hc, h, limitedByCurrent]

/-- A recompute of one channel writes no other. -/
theorem State.chan_recompute (s : State) (c d : ChanId) :
    (s.recompute c).chan d = if c = d then (s.chan c).recomputed (s.effMax c) (s.layer c).capOf else s.chan d := by
  have h : ∀ (t : State) (b u : Nat), (t.handMagnitude c b u).chan d = t.chan d := by
    intro t b u
    simp [State.chan]
  unfold State.recompute
  rw [h, State.chan_setChan]

/-- What the entry into HALT leaves of a channel: F, brake-held, the last feedback value and the sticky flags are kept
(R94, R102). -/
theorem State.chan_enterHalt (s : State) (c d : ChanId) :
    (s.enterHalt c).chan d = if c = d
      then { s.chan c with state := .halt, target := 0, ramped := 0, mag := 0, nextOn := 0, activeOn := 0 }
      else s.chan d := by
  unfold State.enterHalt
  rw [State.chan_recompute]
  split
  · rw [State.chan_setChan_self, Channel.recomputed_of_ramped_zero _ _ _ rfl]
  · rename_i h
    rw [State.chan_setChan_ne _ _ _ _ h]

/-- A layer that comes to hold COAST or BRAKE is the entry into HALT (R94, R136). -/
theorem State.applyLayer_of_halts (s : State) (c : ChanId) (h : (s.layer c).halts = true)
    (ho : (s.chan c).state ≠ .off) (hh : (s.chan c).state ≠ .halt) : s.applyLayer c = s.enterHalt c := by
  unfold State.applyLayer
  rw [h]
  split <;> simp_all

end Sys2Proof.Machine
end

