-- ==== Sys2Proof/Laws/Frames.lean ====
section
/-! SUPPORT. The levels of a byte and of bytes on the line: their number, where each stands, what the receiver reads. -/

namespace Sys2Proof.Machine

@[simp] theorem byteLevels_length (b : Byte) : (byteLevels b).length = 10 := by simp [byteLevels]

/-- The receiver reads a byte back from its ten levels (R155). -/
theorem readLevels_byteLevels (b : Byte) : readLevels (byteLevels b) = some b := by
  revert b
  decide +kernel

@[simp] theorem lineLevels_length (l : List Byte) : (lineLevels l).length = 10 * l.length := by
  induction l with
  | nil => rfl
  | cons b l ih =>
    simp only [lineLevels, List.flatMap_cons, List.length_append, byteLevels_length, List.length_cons] at *
    omega

/-- Bit j of byte i stands at place 10 i + j of the line. -/
theorem lineLevels_getElem? (l : List Byte) (i j : Nat) (hj : j < 10) :
    (lineLevels l)[10 * i + j]? = (l[i]?).bind (fun b => (byteLevels b)[j]?) := by
  induction l generalizing i with
  | nil => simp [lineLevels]
  | cons b l ih =>
    cases i with
    | zero => simp [lineLevels, List.getElem?_append, hj]
    | succ i =>
      have h := ih i
      simp only [lineLevels, List.flatMap_cons] at *
      rw [List.getElem?_append_right (by simp; omega), byteLevels_length,
        show 10 * (i + 1) + j - 10 = 10 * i + j by omega, h]
      simp

end Sys2Proof.Machine
end

