-- ==== Sys2Proof/Laws/Scheduler.lean ====
section
/-! SUPPORT. What each operation of the scheduler, the rings and the anchors leaves as it was (chapters 1 to 4). -/

namespace Sys2Proof.Machine

@[simp] theorem State.postWatermark_frame (s : State) (n : RingId) (b : Bool) (w : Nat) :
    (s.postWatermark n b w).clock = s.clock ∧ (s.postWatermark n b w).pins = s.pins ∧
    (s.postWatermark n b w).slots = s.slots ∧ (s.postWatermark n b w).anchors = s.anchors ∧
    (s.postWatermark n b w).cadences = s.cadences ∧ (s.postWatermark n b w).ready = s.ready ∧
    (s.postWatermark n b w).conv = s.conv ∧ (s.postWatermark n b w).rings = s.rings ∧
    (s.postWatermark n b w).chans = s.chans ∧ (s.postWatermark n b w).holds = s.holds ∧
    (s.postWatermark n b w).profiles = s.profiles ∧ (s.postWatermark n b w).activeProfile = s.activeProfile ∧
    (s.postWatermark n b w).sources = s.sources ∧ (s.postWatermark n b w).epoch = s.epoch ∧
    (s.postWatermark n b w).counters = s.counters ∧ (s.postWatermark n b w).decoders = s.decoders ∧
    (s.postWatermark n b w).link = s.link ∧ (s.postWatermark n b w).pending = s.pending ∧
    (s.postWatermark n b w).drawn = s.drawn := by
  unfold State.postWatermark
  split <;> simp

@[simp] theorem State.ringWrite_frame (s : State) (n : RingId) (e : RingEntry) :
    (s.ringWrite n e).clock = s.clock ∧ (s.ringWrite n e).pins = s.pins ∧ (s.ringWrite n e).slots = s.slots ∧
    (s.ringWrite n e).anchors = s.anchors ∧ (s.ringWrite n e).cadences = s.cadences ∧
    (s.ringWrite n e).ready = s.ready ∧ (s.ringWrite n e).conv = s.conv ∧ (s.ringWrite n e).chans = s.chans ∧
    (s.ringWrite n e).holds = s.holds ∧ (s.ringWrite n e).profiles = s.profiles ∧
    (s.ringWrite n e).activeProfile = s.activeProfile ∧ (s.ringWrite n e).sources = s.sources ∧
    (s.ringWrite n e).epoch = s.epoch ∧ (s.ringWrite n e).counters = s.counters ∧
    (s.ringWrite n e).decoders = s.decoders ∧ (s.ringWrite n e).link = s.link ∧
    (s.ringWrite n e).pending = s.pending ∧ (s.ringWrite n e).drawn = s.drawn := by
  simp [State.ringWrite]

@[simp] theorem State.writeRound_frame (s : State) (d : Option RingId) (e : RingEntry) :
    (s.writeRound d e).clock = s.clock ∧ (s.writeRound d e).pins = s.pins ∧ (s.writeRound d e).slots = s.slots ∧
    (s.writeRound d e).anchors = s.anchors ∧ (s.writeRound d e).cadences = s.cadences ∧
    (s.writeRound d e).ready = s.ready ∧ (s.writeRound d e).conv = s.conv ∧ (s.writeRound d e).chans = s.chans ∧
    (s.writeRound d e).holds = s.holds ∧ (s.writeRound d e).profiles = s.profiles ∧
    (s.writeRound d e).activeProfile = s.activeProfile ∧ (s.writeRound d e).sources = s.sources ∧
    (s.writeRound d e).epoch = s.epoch ∧ (s.writeRound d e).counters = s.counters ∧
    (s.writeRound d e).decoders = s.decoders ∧ (s.writeRound d e).link = s.link ∧
    (s.writeRound d e).pending = s.pending ∧ (s.writeRound d e).drawn = s.drawn := by
  unfold State.writeRound
  split <;> simp

@[simp] theorem State.placeReady_frame (s : State) (x : SlotId) (pos : InsertPos) :
    (s.placeReady x pos).clock = s.clock ∧ (s.placeReady x pos).pins = s.pins ∧
    (s.placeReady x pos).slots = s.slots ∧ (s.placeReady x pos).anchors = s.anchors ∧
    (s.placeReady x pos).cadences = s.cadences ∧ (s.placeReady x pos).conv = s.conv ∧
    (s.placeReady x pos).rings = s.rings ∧ (s.placeReady x pos).chans = s.chans ∧
    (s.placeReady x pos).holds = s.holds ∧ (s.placeReady x pos).profiles = s.profiles ∧
    (s.placeReady x pos).activeProfile = s.activeProfile ∧ (s.placeReady x pos).sources = s.sources ∧
    (s.placeReady x pos).epoch = s.epoch ∧ (s.placeReady x pos).counters = s.counters ∧
    (s.placeReady x pos).decoders = s.decoders ∧ (s.placeReady x pos).link = s.link ∧
    (s.placeReady x pos).out = s.out ∧ (s.placeReady x pos).pending = s.pending ∧
    (s.placeReady x pos).drawn = s.drawn := by
  simp [State.placeReady]

@[simp] theorem State.enterReady_frame (s : State) (x : SlotId) (pos : InsertPos) :
    (s.enterReady x pos).clock = s.clock ∧ (s.enterReady x pos).pins = s.pins ∧
    (s.enterReady x pos).anchors = s.anchors ∧ (s.enterReady x pos).cadences = s.cadences ∧
    (s.enterReady x pos).conv = s.conv ∧ (s.enterReady x pos).rings = s.rings ∧
    (s.enterReady x pos).chans = s.chans ∧ (s.enterReady x pos).holds = s.holds ∧
    (s.enterReady x pos).profiles = s.profiles ∧ (s.enterReady x pos).activeProfile = s.activeProfile ∧
    (s.enterReady x pos).sources = s.sources ∧ (s.enterReady x pos).epoch = s.epoch ∧
    (s.enterReady x pos).counters = s.counters ∧ (s.enterReady x pos).decoders = s.decoders ∧
    (s.enterReady x pos).link = s.link ∧ (s.enterReady x pos).out = s.out ∧
    (s.enterReady x pos).pending = s.pending ∧ (s.enterReady x pos).drawn = s.drawn := by
  simp [State.enterReady]

@[simp] theorem State.arm_frame (s : State) (x : SlotId) (a : AnchorId) :
    (s.arm x a).clock = s.clock ∧ (s.arm x a).pins = s.pins ∧ (s.arm x a).cadences = s.cadences ∧
    (s.arm x a).conv = s.conv ∧ (s.arm x a).rings = s.rings ∧ (s.arm x a).chans = s.chans ∧
    (s.arm x a).holds = s.holds ∧ (s.arm x a).profiles = s.profiles ∧ (s.arm x a).activeProfile = s.activeProfile ∧
    (s.arm x a).sources = s.sources ∧ (s.arm x a).epoch = s.epoch ∧ (s.arm x a).counters = s.counters ∧
    (s.arm x a).decoders = s.decoders ∧ (s.arm x a).link = s.link ∧ (s.arm x a).out = s.out ∧
    (s.arm x a).pending = s.pending ∧ (s.arm x a).drawn = s.drawn := by
  simp only [State.arm]
  split <;> simp

@[simp] theorem State.rest_frame (s : State) (x : SlotId) :
    (s.rest x).clock = s.clock ∧ (s.rest x).pins = s.pins ∧ (s.rest x).anchors = s.anchors ∧
    (s.rest x).cadences = s.cadences ∧ (s.rest x).ready = s.ready ∧ (s.rest x).conv = s.conv ∧
    (s.rest x).rings = s.rings ∧ (s.rest x).chans = s.chans ∧ (s.rest x).holds = s.holds ∧
    (s.rest x).profiles = s.profiles ∧ (s.rest x).activeProfile = s.activeProfile ∧ (s.rest x).sources = s.sources ∧
    (s.rest x).epoch = s.epoch ∧ (s.rest x).counters = s.counters ∧ (s.rest x).decoders = s.decoders ∧
    (s.rest x).link = s.link ∧ (s.rest x).out = s.out ∧ (s.rest x).pending = s.pending ∧ (s.rest x).drawn = s.drawn := by
  simp [State.rest]

@[simp] theorem State.rearm_frame (s : State) (x : SlotId) :
    (s.rearm x).clock = s.clock ∧ (s.rearm x).pins = s.pins ∧ (s.rearm x).cadences = s.cadences ∧
    (s.rearm x).conv = s.conv ∧ (s.rearm x).rings = s.rings ∧ (s.rearm x).chans = s.chans ∧
    (s.rearm x).holds = s.holds ∧ (s.rearm x).profiles = s.profiles ∧ (s.rearm x).activeProfile = s.activeProfile ∧
    (s.rearm x).sources = s.sources ∧ (s.rearm x).epoch = s.epoch ∧ (s.rearm x).counters = s.counters ∧
    (s.rearm x).decoders = s.decoders ∧ (s.rearm x).link = s.link ∧ (s.rearm x).out = s.out ∧
    (s.rearm x).pending = s.pending ∧ (s.rearm x).drawn = s.drawn := by
  unfold State.rearm
  split <;> simp

@[simp] theorem State.countRound_frame (s : State) (x : SlotId) :
    (s.countRound x).clock = s.clock ∧ (s.countRound x).pins = s.pins ∧ (s.countRound x).anchors = s.anchors ∧
    (s.countRound x).cadences = s.cadences ∧ (s.countRound x).ready = s.ready ∧ (s.countRound x).conv = s.conv ∧
    (s.countRound x).rings = s.rings ∧ (s.countRound x).chans = s.chans ∧ (s.countRound x).holds = s.holds ∧
    (s.countRound x).profiles = s.profiles ∧ (s.countRound x).activeProfile = s.activeProfile ∧
    (s.countRound x).sources = s.sources ∧ (s.countRound x).epoch = s.epoch ∧
    (s.countRound x).counters = s.counters ∧ (s.countRound x).decoders = s.decoders ∧
    (s.countRound x).link = s.link ∧ (s.countRound x).out = s.out ∧ (s.countRound x).pending = s.pending ∧
    (s.countRound x).drawn = s.drawn := by
  simp [State.countRound]

@[simp] theorem State.completionPath_frame (s : State) (x : SlotId) (k : BitVec 16) :
    (s.completionPath x k).clock = s.clock ∧ (s.completionPath x k).pins = s.pins ∧
    (s.completionPath x k).cadences = s.cadences ∧ (s.completionPath x k).conv = s.conv ∧
    (s.completionPath x k).rings = s.rings ∧ (s.completionPath x k).chans = s.chans ∧
    (s.completionPath x k).holds = s.holds ∧ (s.completionPath x k).profiles = s.profiles ∧
    (s.completionPath x k).activeProfile = s.activeProfile ∧ (s.completionPath x k).sources = s.sources ∧
    (s.completionPath x k).epoch = s.epoch ∧ (s.completionPath x k).counters = s.counters ∧
    (s.completionPath x k).decoders = s.decoders ∧ (s.completionPath x k).link = s.link ∧
    (s.completionPath x k).pending = s.pending ∧ (s.completionPath x k).drawn = s.drawn := by
  unfold State.completionPath
  repeat' split
  all_goals simp

@[simp] theorem State.finishRound_frame (s : State) (x : SlotId) :
    (s.finishRound x).clock = s.clock ∧ (s.finishRound x).pins = s.pins ∧ (s.finishRound x).cadences = s.cadences ∧
    (s.finishRound x).conv = s.conv ∧ (s.finishRound x).rings = s.rings ∧ (s.finishRound x).chans = s.chans ∧
    (s.finishRound x).holds = s.holds ∧ (s.finishRound x).profiles = s.profiles ∧
    (s.finishRound x).activeProfile = s.activeProfile ∧ (s.finishRound x).sources = s.sources ∧
    (s.finishRound x).epoch = s.epoch ∧ (s.finishRound x).counters = s.counters ∧
    (s.finishRound x).decoders = s.decoders ∧ (s.finishRound x).link = s.link ∧
    (s.finishRound x).pending = s.pending ∧ (s.finishRound x).drawn = s.drawn := by
  simp [State.finishRound]

@[simp] theorem State.missFeedback_frame (s : State) (d : Option Feedback) :
    (s.missFeedback d).clock = s.clock ∧ (s.missFeedback d).pins = s.pins ∧ (s.missFeedback d).slots = s.slots ∧
    (s.missFeedback d).anchors = s.anchors ∧ (s.missFeedback d).cadences = s.cadences ∧
    (s.missFeedback d).ready = s.ready ∧ (s.missFeedback d).conv = s.conv ∧ (s.missFeedback d).rings = s.rings ∧
    (s.missFeedback d).holds = s.holds ∧ (s.missFeedback d).profiles = s.profiles ∧
    (s.missFeedback d).activeProfile = s.activeProfile ∧ (s.missFeedback d).sources = s.sources ∧
    (s.missFeedback d).epoch = s.epoch ∧ (s.missFeedback d).counters = s.counters ∧
    (s.missFeedback d).decoders = s.decoders ∧ (s.missFeedback d).link = s.link ∧ (s.missFeedback d).out = s.out ∧
    (s.missFeedback d).pending = s.pending ∧ (s.missFeedback d).drawn = s.drawn := by
  unfold State.missFeedback
  split <;> simp

@[simp] theorem State.finishMissed_frame (s : State) (x : SlotId) :
    (s.finishMissed x).clock = s.clock ∧ (s.finishMissed x).pins = s.pins ∧
    (s.finishMissed x).cadences = s.cadences ∧ (s.finishMissed x).conv = s.conv ∧
    (s.finishMissed x).holds = s.holds ∧ (s.finishMissed x).profiles = s.profiles ∧
    (s.finishMissed x).activeProfile = s.activeProfile ∧ (s.finishMissed x).sources = s.sources ∧
    (s.finishMissed x).epoch = s.epoch ∧ (s.finishMissed x).counters = s.counters ∧
    (s.finishMissed x).decoders = s.decoders ∧ (s.finishMissed x).link = s.link ∧
    (s.finishMissed x).pending = s.pending ∧ (s.finishMissed x).drawn = s.drawn := by
  simp [State.finishMissed]

@[simp] theorem State.startConversion_frame (s : State) (x : SlotId) :
    (s.startConversion x).clock = s.clock ∧ (s.startConversion x).pins = s.pins ∧
    (s.startConversion x).anchors = s.anchors ∧ (s.startConversion x).cadences = s.cadences ∧
    (s.startConversion x).ready = s.ready ∧ (s.startConversion x).rings = s.rings ∧
    (s.startConversion x).chans = s.chans ∧ (s.startConversion x).holds = s.holds ∧
    (s.startConversion x).profiles = s.profiles ∧ (s.startConversion x).activeProfile = s.activeProfile ∧
    (s.startConversion x).sources = s.sources ∧ (s.startConversion x).epoch = s.epoch ∧
    (s.startConversion x).counters = s.counters ∧ (s.startConversion x).decoders = s.decoders ∧
    (s.startConversion x).link = s.link ∧ (s.startConversion x).out = s.out ∧
    (s.startConversion x).pending = s.pending ∧ (s.startConversion x).drawn = s.drawn := by
  simp [State.startConversion]

@[simp] theorem State.dispatchChain_frame (k : Nat) (s : State) :
    (State.dispatchChain k s).clock = s.clock ∧ (State.dispatchChain k s).pins = s.pins ∧
    (State.dispatchChain k s).cadences = s.cadences ∧ (State.dispatchChain k s).holds = s.holds ∧
    (State.dispatchChain k s).profiles = s.profiles ∧ (State.dispatchChain k s).activeProfile = s.activeProfile ∧
    (State.dispatchChain k s).sources = s.sources ∧ (State.dispatchChain k s).epoch = s.epoch ∧
    (State.dispatchChain k s).counters = s.counters ∧ (State.dispatchChain k s).decoders = s.decoders ∧
    (State.dispatchChain k s).link = s.link ∧ (State.dispatchChain k s).pending = s.pending ∧
    (State.dispatchChain k s).drawn = s.drawn := by
  induction k generalizing s with
  | zero => simp [State.dispatchChain]
  | succ k ih =>
    simp only [State.dispatchChain]
    split
    · simp
    · simp
    · split
      · simp [ih]
      · simp

@[simp] theorem State.dispatch_frame (s : State) :
    (s.dispatch).clock = s.clock ∧ (s.dispatch).pins = s.pins ∧ (s.dispatch).cadences = s.cadences ∧
    (s.dispatch).holds = s.holds ∧ (s.dispatch).profiles = s.profiles ∧
    (s.dispatch).activeProfile = s.activeProfile ∧ (s.dispatch).sources = s.sources ∧ (s.dispatch).epoch = s.epoch ∧
    (s.dispatch).counters = s.counters ∧ (s.dispatch).decoders = s.decoders ∧ (s.dispatch).link = s.link ∧
    (s.dispatch).pending = s.pending ∧ (s.dispatch).drawn = s.drawn := by
  simp [State.dispatch]

/-- No dispatch is made while the converter converts (R50). -/
theorem State.dispatch_of_converting (s : State) (h : s.conv.isSome = true) : s.dispatch = s := by
  obtain ⟨v, hv⟩ := Option.isSome_iff_exists.mp h
  simp [State.dispatch, State.chainBound, State.dispatchChain, hv]

@[simp] theorem State.release_frame (s : State) (pos : InsertPos) (x : SlotId) :
    (s.release pos x).clock = s.clock ∧ (s.release pos x).pins = s.pins ∧ (s.release pos x).anchors = s.anchors ∧
    (s.release pos x).cadences = s.cadences ∧ (s.release pos x).conv = s.conv ∧ (s.release pos x).rings = s.rings ∧
    (s.release pos x).chans = s.chans ∧ (s.release pos x).holds = s.holds ∧ (s.release pos x).profiles = s.profiles ∧
    (s.release pos x).activeProfile = s.activeProfile ∧ (s.release pos x).sources = s.sources ∧
    (s.release pos x).epoch = s.epoch ∧ (s.release pos x).counters = s.counters ∧
    (s.release pos x).decoders = s.decoders ∧ (s.release pos x).link = s.link ∧ (s.release pos x).out = s.out ∧
    (s.release pos x).pending = s.pending ∧ (s.release pos x).drawn = s.drawn := by
  simp [State.release]

theorem releaseFoldl_frame (p : InsertPos) (l : List SlotId) (s : State) :
    (l.foldl (fun s x => s.release p x) s).clock = s.clock ∧ (l.foldl (fun s x => s.release p x) s).pins = s.pins ∧
    (l.foldl (fun s x => s.release p x) s).anchors = s.anchors ∧
    (l.foldl (fun s x => s.release p x) s).cadences = s.cadences ∧
    (l.foldl (fun s x => s.release p x) s).conv = s.conv ∧ (l.foldl (fun s x => s.release p x) s).rings = s.rings ∧
    (l.foldl (fun s x => s.release p x) s).chans = s.chans ∧ (l.foldl (fun s x => s.release p x) s).holds = s.holds ∧
    (l.foldl (fun s x => s.release p x) s).profiles = s.profiles ∧
    (l.foldl (fun s x => s.release p x) s).activeProfile = s.activeProfile ∧
    (l.foldl (fun s x => s.release p x) s).sources = s.sources ∧
    (l.foldl (fun s x => s.release p x) s).epoch = s.epoch ∧
    (l.foldl (fun s x => s.release p x) s).counters = s.counters ∧
    (l.foldl (fun s x => s.release p x) s).decoders = s.decoders ∧
    (l.foldl (fun s x => s.release p x) s).link = s.link ∧ (l.foldl (fun s x => s.release p x) s).out = s.out ∧
    (l.foldl (fun s x => s.release p x) s).pending = s.pending ∧
    (l.foldl (fun s x => s.release p x) s).drawn = s.drawn := by
  induction l generalizing s with
  | nil => simp
  | cons x l ih => simpa using ih (s.release p x)

theorem releaseFoldr_frame (p : InsertPos) (l : List SlotId) (s : State) :
    (l.foldr (fun x s => s.release p x) s).clock = s.clock ∧ (l.foldr (fun x s => s.release p x) s).pins = s.pins ∧
    (l.foldr (fun x s => s.release p x) s).anchors = s.anchors ∧
    (l.foldr (fun x s => s.release p x) s).cadences = s.cadences ∧
    (l.foldr (fun x s => s.release p x) s).conv = s.conv ∧ (l.foldr (fun x s => s.release p x) s).rings = s.rings ∧
    (l.foldr (fun x s => s.release p x) s).chans = s.chans ∧ (l.foldr (fun x s => s.release p x) s).holds = s.holds ∧
    (l.foldr (fun x s => s.release p x) s).profiles = s.profiles ∧
    (l.foldr (fun x s => s.release p x) s).activeProfile = s.activeProfile ∧
    (l.foldr (fun x s => s.release p x) s).sources = s.sources ∧
    (l.foldr (fun x s => s.release p x) s).epoch = s.epoch ∧
    (l.foldr (fun x s => s.release p x) s).counters = s.counters ∧
    (l.foldr (fun x s => s.release p x) s).decoders = s.decoders ∧
    (l.foldr (fun x s => s.release p x) s).link = s.link ∧ (l.foldr (fun x s => s.release p x) s).out = s.out ∧
    (l.foldr (fun x s => s.release p x) s).pending = s.pending ∧
    (l.foldr (fun x s => s.release p x) s).drawn = s.drawn := by
  induction l with
  | nil => simp
  | cons x l ih => simpa using ih

@[simp] theorem State.releaseAll_frame (s : State) (pos : InsertPos) (l : List SlotId) :
    (s.releaseAll pos l).clock = s.clock ∧ (s.releaseAll pos l).pins = s.pins ∧
    (s.releaseAll pos l).anchors = s.anchors ∧ (s.releaseAll pos l).cadences = s.cadences ∧
    (s.releaseAll pos l).conv = s.conv ∧ (s.releaseAll pos l).rings = s.rings ∧
    (s.releaseAll pos l).chans = s.chans ∧ (s.releaseAll pos l).holds = s.holds ∧
    (s.releaseAll pos l).profiles = s.profiles ∧ (s.releaseAll pos l).activeProfile = s.activeProfile ∧
    (s.releaseAll pos l).sources = s.sources ∧ (s.releaseAll pos l).epoch = s.epoch ∧
    (s.releaseAll pos l).counters = s.counters ∧ (s.releaseAll pos l).decoders = s.decoders ∧
    (s.releaseAll pos l).link = s.link ∧ (s.releaseAll pos l).out = s.out ∧
    (s.releaseAll pos l).pending = s.pending ∧ (s.releaseAll pos l).drawn = s.drawn := by
  unfold State.releaseAll
  split
  · simpa using releaseFoldl_frame .tail l s
  · simpa using releaseFoldr_frame .head l s

@[simp] theorem State.fireAnchor_frame (s : State) (a : AnchorId) :
    (s.fireAnchor a).clock = s.clock ∧ (s.fireAnchor a).pins = s.pins ∧ (s.fireAnchor a).cadences = s.cadences ∧
    (s.fireAnchor a).conv = s.conv ∧ (s.fireAnchor a).rings = s.rings ∧ (s.fireAnchor a).chans = s.chans ∧
    (s.fireAnchor a).holds = s.holds ∧ (s.fireAnchor a).profiles = s.profiles ∧
    (s.fireAnchor a).activeProfile = s.activeProfile ∧ (s.fireAnchor a).sources = s.sources ∧
    (s.fireAnchor a).epoch = s.epoch ∧ (s.fireAnchor a).counters = s.counters ∧
    (s.fireAnchor a).decoders = s.decoders ∧ (s.fireAnchor a).link = s.link ∧ (s.fireAnchor a).out = s.out ∧
    (s.fireAnchor a).pending = s.pending ∧ (s.fireAnchor a).drawn = s.drawn := by
  simp only [State.fireAnchor]
  split <;> simp

/-- Once the command behind is no cancel of a READY slot, settling is dispatch. -/
theorem State.settle_of_cancelNext_false (s : State) (h : s.cancelNext = false) : s.settle = s.dispatch := by
  simp [State.settle, h]

/-- A cancel of a READY slot that stands behind finds the queue as it is (R41, R59). -/
theorem State.settle_of_cancelNext (s : State) (h : s.cancelNext = true) : s.settle = s := by
  simp [State.settle, h]

/-- A converting converter is left as it is. -/
theorem State.settle_of_converting (s : State) (h : s.conv.isSome = true) : s.settle = s := by
  unfold State.settle
  split
  · rfl
  · exact s.dispatch_of_converting h

/-- With no command behind, no cancel falls at the moment. -/
theorem State.cancelNext_of_pending_nil (s : State) (h : s.pending = []) : s.cancelNext = false := by
  unfold State.cancelNext State.takenNext State.arrivingNext State.roomNext
  cases hr : s.link.requests <;> simp [h]

/-- With no command behind, settling is dispatch (R50). -/
theorem State.settle_of_pending_nil (s : State) (h : s.pending = []) : s.settle = s.dispatch :=
  s.settle_of_cancelNext_false (s.cancelNext_of_pending_nil h)

@[simp] theorem State.settle_frame (s : State) :
    s.settle.clock = s.clock ∧ s.settle.pins = s.pins ∧ s.settle.cadences = s.cadences ∧ s.settle.holds = s.holds ∧
    s.settle.profiles = s.profiles ∧ s.settle.activeProfile = s.activeProfile ∧ s.settle.sources = s.sources ∧
    s.settle.epoch = s.epoch ∧ s.settle.counters = s.counters ∧ s.settle.decoders = s.decoders ∧
    s.settle.link = s.link ∧ s.settle.pending = s.pending ∧ s.settle.drawn = s.drawn := by
  unfold State.settle
  split <;> simp

@[simp] theorem State.fire_frame (s : State) (a : AnchorId) :
    (s.fire a).clock = s.clock ∧ (s.fire a).pins = s.pins ∧ (s.fire a).cadences = s.cadences ∧
    (s.fire a).holds = s.holds ∧ (s.fire a).profiles = s.profiles ∧ (s.fire a).activeProfile = s.activeProfile ∧
    (s.fire a).sources = s.sources ∧ (s.fire a).epoch = s.epoch ∧ (s.fire a).counters = s.counters ∧
    (s.fire a).decoders = s.decoders ∧ (s.fire a).link = s.link ∧ (s.fire a).pending = s.pending ∧
    (s.fire a).drawn = s.drawn := by
  simp [State.fire]

end Sys2Proof.Machine
end

