-- ==== Sys2Proof/Laws/Guard.lean ====
section
/-! SUPPORT. What each operation of the guard unit and of the converter leaves as it was (chapters 3, 4 and 7). -/

namespace Sys2Proof.Machine

theorem applyMaskFold_frame (mask : BitVec 4) (l : List ChanId) (s : State) :
    (l.foldl (fun s c => if mask.getLsbD c.val then s.applyLayer c else s) s).clock = s.clock ∧
    (l.foldl (fun s c => if mask.getLsbD c.val then s.applyLayer c else s) s).pins = s.pins ∧
    (l.foldl (fun s c => if mask.getLsbD c.val then s.applyLayer c else s) s).slots = s.slots ∧
    (l.foldl (fun s c => if mask.getLsbD c.val then s.applyLayer c else s) s).anchors = s.anchors ∧
    (l.foldl (fun s c => if mask.getLsbD c.val then s.applyLayer c else s) s).cadences = s.cadences ∧
    (l.foldl (fun s c => if mask.getLsbD c.val then s.applyLayer c else s) s).ready = s.ready ∧
    (l.foldl (fun s c => if mask.getLsbD c.val then s.applyLayer c else s) s).conv = s.conv ∧
    (l.foldl (fun s c => if mask.getLsbD c.val then s.applyLayer c else s) s).rings = s.rings ∧
    (l.foldl (fun s c => if mask.getLsbD c.val then s.applyLayer c else s) s).holds = s.holds ∧
    (l.foldl (fun s c => if mask.getLsbD c.val then s.applyLayer c else s) s).profiles = s.profiles ∧
    (l.foldl (fun s c => if mask.getLsbD c.val then s.applyLayer c else s) s).activeProfile = s.activeProfile ∧
    (l.foldl (fun s c => if mask.getLsbD c.val then s.applyLayer c else s) s).sources = s.sources ∧
    (l.foldl (fun s c => if mask.getLsbD c.val then s.applyLayer c else s) s).epoch = s.epoch ∧
    (l.foldl (fun s c => if mask.getLsbD c.val then s.applyLayer c else s) s).decoders = s.decoders ∧
    (l.foldl (fun s c => if mask.getLsbD c.val then s.applyLayer c else s) s).link = s.link ∧
    (l.foldl (fun s c => if mask.getLsbD c.val then s.applyLayer c else s) s).out = s.out ∧
    (l.foldl (fun s c => if mask.getLsbD c.val then s.applyLayer c else s) s).pending = s.pending ∧
    (l.foldl (fun s c => if mask.getLsbD c.val then s.applyLayer c else s) s).drawn = s.drawn := by
  induction l generalizing s with
  | nil => simp
  | cons c l ih =>
    simp only [List.foldl_cons]
    split
    · simpa using ih (s.applyLayer c)
    · exact ih s

@[simp] theorem State.applyMask_frame (s : State) (m : BitVec 4) :
    (s.applyMask m).clock = s.clock ∧ (s.applyMask m).pins = s.pins ∧ (s.applyMask m).slots = s.slots ∧
    (s.applyMask m).anchors = s.anchors ∧ (s.applyMask m).cadences = s.cadences ∧ (s.applyMask m).ready = s.ready ∧
    (s.applyMask m).conv = s.conv ∧ (s.applyMask m).rings = s.rings ∧ (s.applyMask m).holds = s.holds ∧
    (s.applyMask m).profiles = s.profiles ∧ (s.applyMask m).activeProfile = s.activeProfile ∧
    (s.applyMask m).sources = s.sources ∧ (s.applyMask m).epoch = s.epoch ∧ (s.applyMask m).decoders = s.decoders ∧
    (s.applyMask m).link = s.link ∧ (s.applyMask m).out = s.out ∧ (s.applyMask m).pending = s.pending ∧
    (s.applyMask m).drawn = s.drawn := by
  simpa [State.applyMask] using applyMaskFold_frame m allChans s

@[simp] theorem State.tripOptions_frame (s : State) (e : Bool) (g : Bool) :
    (s.tripOptions e g).clock = s.clock ∧ (s.tripOptions e g).pins = s.pins ∧
    (s.tripOptions e g).cadences = s.cadences ∧ (s.tripOptions e g).holds = s.holds ∧
    (s.tripOptions e g).profiles = s.profiles ∧ (s.tripOptions e g).activeProfile = s.activeProfile ∧
    (s.tripOptions e g).sources = s.sources ∧ (s.tripOptions e g).counters = s.counters ∧
    (s.tripOptions e g).decoders = s.decoders ∧ (s.tripOptions e g).link = s.link ∧
    (s.tripOptions e g).pending = s.pending ∧ (s.tripOptions e g).drawn = s.drawn := by
  cases e <;> cases g <;> simp [State.tripOptions]

@[simp] theorem State.tripWork_frame (s : State) (n : SourceId) :
    (s.tripWork n).clock = s.clock ∧ (s.tripWork n).pins = s.pins ∧ (s.tripWork n).cadences = s.cadences ∧
    (s.tripWork n).holds = s.holds ∧ (s.tripWork n).profiles = s.profiles ∧
    (s.tripWork n).activeProfile = s.activeProfile ∧ (s.tripWork n).sources = s.sources ∧
    (s.tripWork n).decoders = s.decoders ∧ (s.tripWork n).link = s.link ∧ (s.tripWork n).pending = s.pending ∧
    (s.tripWork n).drawn = s.drawn := by
  simp [State.tripWork]

@[simp] theorem State.tripPin_frame (s : State) (n : SourceId) :
    (s.tripPin n).clock = s.clock ∧ (s.tripPin n).pins = s.pins ∧ (s.tripPin n).cadences = s.cadences ∧
    (s.tripPin n).holds = s.holds ∧ (s.tripPin n).profiles = s.profiles ∧
    (s.tripPin n).activeProfile = s.activeProfile ∧ (s.tripPin n).decoders = s.decoders ∧
    (s.tripPin n).link = s.link ∧ (s.tripPin n).pending = s.pending ∧ (s.tripPin n).drawn = s.drawn := by
  simp [State.tripPin]

@[simp] theorem State.tripInternal_frame (s : State) (n : SourceId) :
    (s.tripInternal n).clock = s.clock ∧ (s.tripInternal n).pins = s.pins ∧
    (s.tripInternal n).cadences = s.cadences ∧ (s.tripInternal n).holds = s.holds ∧
    (s.tripInternal n).profiles = s.profiles ∧ (s.tripInternal n).activeProfile = s.activeProfile ∧
    (s.tripInternal n).decoders = s.decoders ∧ (s.tripInternal n).link = s.link ∧
    (s.tripInternal n).pending = s.pending ∧ (s.tripInternal n).drawn = s.drawn := by
  simp [State.tripInternal]

@[simp] theorem State.internalCondition_frame (s : State) (n : SourceId) :
    (s.internalCondition n).clock = s.clock ∧ (s.internalCondition n).pins = s.pins ∧
    (s.internalCondition n).cadences = s.cadences ∧ (s.internalCondition n).holds = s.holds ∧
    (s.internalCondition n).profiles = s.profiles ∧ (s.internalCondition n).activeProfile = s.activeProfile ∧
    (s.internalCondition n).decoders = s.decoders ∧ (s.internalCondition n).link = s.link ∧
    (s.internalCondition n).pending = s.pending ∧ (s.internalCondition n).drawn = s.drawn := by
  simp only [State.internalCondition]
  repeat' split
  all_goals simp

@[simp] theorem State.qualify_frame (s : State) (n : SourceId) :
    (s.qualify n).clock = s.clock ∧ (s.qualify n).pins = s.pins ∧ (s.qualify n).slots = s.slots ∧
    (s.qualify n).anchors = s.anchors ∧ (s.qualify n).cadences = s.cadences ∧ (s.qualify n).ready = s.ready ∧
    (s.qualify n).conv = s.conv ∧ (s.qualify n).rings = s.rings ∧ (s.qualify n).chans = s.chans ∧
    (s.qualify n).holds = s.holds ∧ (s.qualify n).profiles = s.profiles ∧
    (s.qualify n).activeProfile = s.activeProfile ∧ (s.qualify n).epoch = s.epoch ∧
    (s.qualify n).counters = s.counters ∧ (s.qualify n).decoders = s.decoders ∧ (s.qualify n).link = s.link ∧
    (s.qualify n).out = s.out ∧ (s.qualify n).pending = s.pending ∧ (s.qualify n).drawn = s.drawn := by
  simp [State.qualify]

@[simp] theorem State.seeAsserted_frame (s : State) (n : SourceId) :
    (s.seeAsserted n).clock = s.clock ∧ (s.seeAsserted n).pins = s.pins ∧ (s.seeAsserted n).cadences = s.cadences ∧
    (s.seeAsserted n).holds = s.holds ∧ (s.seeAsserted n).profiles = s.profiles ∧
    (s.seeAsserted n).activeProfile = s.activeProfile ∧ (s.seeAsserted n).decoders = s.decoders ∧
    (s.seeAsserted n).link = s.link ∧ (s.seeAsserted n).pending = s.pending ∧ (s.seeAsserted n).drawn = s.drawn := by
  unfold State.seeAsserted
  split <;> simp

@[simp] theorem State.assertPin_frame (s : State) (p : Fin 8) :
    (s.assertPin p).clock = s.clock ∧ (s.assertPin p).cadences = s.cadences ∧ (s.assertPin p).holds = s.holds ∧
    (s.assertPin p).profiles = s.profiles ∧ (s.assertPin p).activeProfile = s.activeProfile ∧
    (s.assertPin p).decoders = s.decoders ∧ (s.assertPin p).link = s.link ∧ (s.assertPin p).pending = s.pending ∧
    (s.assertPin p).drawn = s.drawn := by
  simp only [State.assertPin]
  split <;> simp

@[simp] theorem State.deassertPin_frame (s : State) (p : Fin 8) :
    (s.deassertPin p).clock = s.clock ∧ (s.deassertPin p).slots = s.slots ∧ (s.deassertPin p).anchors = s.anchors ∧
    (s.deassertPin p).cadences = s.cadences ∧ (s.deassertPin p).ready = s.ready ∧ (s.deassertPin p).conv = s.conv ∧
    (s.deassertPin p).rings = s.rings ∧ (s.deassertPin p).chans = s.chans ∧ (s.deassertPin p).holds = s.holds ∧
    (s.deassertPin p).profiles = s.profiles ∧ (s.deassertPin p).activeProfile = s.activeProfile ∧
    (s.deassertPin p).epoch = s.epoch ∧ (s.deassertPin p).counters = s.counters ∧
    (s.deassertPin p).decoders = s.decoders ∧ (s.deassertPin p).link = s.link ∧
    (s.deassertPin p).pending = s.pending ∧ (s.deassertPin p).drawn = s.drawn := by
  simp only [State.deassertPin]
  split <;> simp

@[simp] theorem State.expireQualification_frame (s : State) (p : Fin 8) :
    (s.expireQualification p).clock = s.clock ∧ (s.expireQualification p).pins = s.pins ∧
    (s.expireQualification p).cadences = s.cadences ∧ (s.expireQualification p).holds = s.holds ∧
    (s.expireQualification p).profiles = s.profiles ∧ (s.expireQualification p).activeProfile = s.activeProfile ∧
    (s.expireQualification p).decoders = s.decoders ∧ (s.expireQualification p).link = s.link ∧
    (s.expireQualification p).pending = s.pending ∧ (s.expireQualification p).drawn = s.drawn := by
  simp only [State.expireQualification]
  split <;> simp

@[simp] theorem State.deliverRound_frame (s : State) (d : Option Feedback) (l : List Count) :
    (s.deliverRound d l).clock = s.clock ∧ (s.deliverRound d l).pins = s.pins ∧
    (s.deliverRound d l).slots = s.slots ∧ (s.deliverRound d l).anchors = s.anchors ∧
    (s.deliverRound d l).cadences = s.cadences ∧ (s.deliverRound d l).ready = s.ready ∧
    (s.deliverRound d l).conv = s.conv ∧ (s.deliverRound d l).rings = s.rings ∧
    (s.deliverRound d l).holds = s.holds ∧ (s.deliverRound d l).profiles = s.profiles ∧
    (s.deliverRound d l).activeProfile = s.activeProfile ∧ (s.deliverRound d l).sources = s.sources ∧
    (s.deliverRound d l).epoch = s.epoch ∧ (s.deliverRound d l).decoders = s.decoders ∧
    (s.deliverRound d l).link = s.link ∧ (s.deliverRound d l).pending = s.pending ∧
    (s.deliverRound d l).drawn = s.drawn := by
  unfold State.deliverRound
  split <;> simp

@[simp] theorem State.windowCheck_frame (s : State) (x : SlotId) (w : Option Window) (l : List Count) :
    (s.windowCheck x w l).clock = s.clock ∧ (s.windowCheck x w l).pins = s.pins ∧
    (s.windowCheck x w l).cadences = s.cadences ∧ (s.windowCheck x w l).holds = s.holds ∧
    (s.windowCheck x w l).profiles = s.profiles ∧ (s.windowCheck x w l).activeProfile = s.activeProfile ∧
    (s.windowCheck x w l).decoders = s.decoders ∧ (s.windowCheck x w l).link = s.link ∧
    (s.windowCheck x w l).pending = s.pending ∧ (s.windowCheck x w l).drawn = s.drawn := by
  simp only [State.windowCheck]
  repeat' split
  all_goals simp

@[simp] theorem State.completeRound_frame (s : State) (x : SlotId) (l : List Count) :
    (s.completeRound x l).clock = s.clock ∧ (s.completeRound x l).pins = s.pins ∧
    (s.completeRound x l).cadences = s.cadences ∧ (s.completeRound x l).holds = s.holds ∧
    (s.completeRound x l).profiles = s.profiles ∧ (s.completeRound x l).activeProfile = s.activeProfile ∧
    (s.completeRound x l).decoders = s.decoders ∧ (s.completeRound x l).link = s.link ∧
    (s.completeRound x l).pending = s.pending ∧ (s.completeRound x l).drawn = s.drawn := by
  simp [State.completeRound]

@[simp] theorem State.yieldSlot_frame (s : State) (x : SlotId) :
    (s.yieldSlot x).clock = s.clock ∧ (s.yieldSlot x).pins = s.pins ∧ (s.yieldSlot x).cadences = s.cadences ∧
    (s.yieldSlot x).holds = s.holds ∧ (s.yieldSlot x).profiles = s.profiles ∧
    (s.yieldSlot x).activeProfile = s.activeProfile ∧ (s.yieldSlot x).sources = s.sources ∧
    (s.yieldSlot x).epoch = s.epoch ∧ (s.yieldSlot x).counters = s.counters ∧ (s.yieldSlot x).decoders = s.decoders ∧
    (s.yieldSlot x).link = s.link ∧ (s.yieldSlot x).pending = s.pending ∧ (s.yieldSlot x).drawn = s.drawn := by
  simp [State.yieldSlot]

@[simp] theorem State.cancelledCompletion_frame (s : State) (x : SlotId) :
    (s.cancelledCompletion x).clock = s.clock ∧ (s.cancelledCompletion x).pins = s.pins ∧
    (s.cancelledCompletion x).cadences = s.cadences ∧ (s.cancelledCompletion x).holds = s.holds ∧
    (s.cancelledCompletion x).profiles = s.profiles ∧ (s.cancelledCompletion x).activeProfile = s.activeProfile ∧
    (s.cancelledCompletion x).sources = s.sources ∧ (s.cancelledCompletion x).epoch = s.epoch ∧
    (s.cancelledCompletion x).counters = s.counters ∧ (s.cancelledCompletion x).decoders = s.decoders ∧
    (s.cancelledCompletion x).link = s.link ∧ (s.cancelledCompletion x).pending = s.pending ∧
    (s.cancelledCompletion x).drawn = s.drawn := by
  simp [State.cancelledCompletion]

@[simp] theorem State.elementDone_frame (s : State) (x : SlotId) (v : Count) :
    (s.elementDone x v).clock = s.clock ∧ (s.elementDone x v).pins = s.pins ∧
    (s.elementDone x v).cadences = s.cadences ∧ (s.elementDone x v).holds = s.holds ∧
    (s.elementDone x v).profiles = s.profiles ∧ (s.elementDone x v).activeProfile = s.activeProfile ∧
    (s.elementDone x v).decoders = s.decoders ∧ (s.elementDone x v).link = s.link ∧
    (s.elementDone x v).pending = s.pending ∧ (s.elementDone x v).drawn = s.drawn := by
  simp only [State.elementDone]
  repeat' split
  all_goals simp

@[simp] theorem State.completeConversion_frame (s : State) (v : Count) :
    (s.completeConversion v).clock = s.clock ∧ (s.completeConversion v).pins = s.pins ∧
    (s.completeConversion v).cadences = s.cadences ∧ (s.completeConversion v).holds = s.holds ∧
    (s.completeConversion v).profiles = s.profiles ∧ (s.completeConversion v).activeProfile = s.activeProfile ∧
    (s.completeConversion v).decoders = s.decoders ∧ (s.completeConversion v).link = s.link ∧
    (s.completeConversion v).pending = s.pending ∧ (s.completeConversion v).drawn = s.drawn := by
  unfold State.completeConversion
  repeat' split
  all_goals simp

@[simp] theorem State.expireWait_frame (s : State) (x : SlotId) :
    (s.expireWait x).clock = s.clock ∧ (s.expireWait x).pins = s.pins ∧ (s.expireWait x).anchors = s.anchors ∧
    (s.expireWait x).cadences = s.cadences ∧ (s.expireWait x).ready = s.ready ∧ (s.expireWait x).conv = s.conv ∧
    (s.expireWait x).rings = s.rings ∧ (s.expireWait x).chans = s.chans ∧ (s.expireWait x).holds = s.holds ∧
    (s.expireWait x).profiles = s.profiles ∧ (s.expireWait x).activeProfile = s.activeProfile ∧
    (s.expireWait x).sources = s.sources ∧ (s.expireWait x).epoch = s.epoch ∧
    (s.expireWait x).counters = s.counters ∧ (s.expireWait x).decoders = s.decoders ∧
    (s.expireWait x).link = s.link ∧ (s.expireWait x).out = s.out ∧ (s.expireWait x).pending = s.pending ∧
    (s.expireWait x).drawn = s.drawn := by
  unfold State.expireWait
  split <;> simp

@[simp] theorem State.fireCentre_frame (s : State) (c : ChanId) :
    (s.fireCentre c).clock = s.clock ∧ (s.fireCentre c).pins = s.pins ∧ (s.fireCentre c).cadences = s.cadences ∧
    (s.fireCentre c).holds = s.holds ∧ (s.fireCentre c).profiles = s.profiles ∧
    (s.fireCentre c).activeProfile = s.activeProfile ∧ (s.fireCentre c).sources = s.sources ∧
    (s.fireCentre c).epoch = s.epoch ∧ (s.fireCentre c).counters = s.counters ∧
    (s.fireCentre c).decoders = s.decoders ∧ (s.fireCentre c).link = s.link ∧ (s.fireCentre c).pending = s.pending ∧
    (s.fireCentre c).drawn = s.drawn := by
  simp [State.fireCentre]

@[simp] theorem State.midpoint_frame (s : State) (c : ChanId) :
    (s.midpoint c).clock = s.clock ∧ (s.midpoint c).pins = s.pins ∧ (s.midpoint c).cadences = s.cadences ∧
    (s.midpoint c).holds = s.holds ∧ (s.midpoint c).profiles = s.profiles ∧
    (s.midpoint c).activeProfile = s.activeProfile ∧ (s.midpoint c).sources = s.sources ∧
    (s.midpoint c).epoch = s.epoch ∧ (s.midpoint c).counters = s.counters ∧ (s.midpoint c).decoders = s.decoders ∧
    (s.midpoint c).link = s.link ∧ (s.midpoint c).pending = s.pending ∧ (s.midpoint c).drawn = s.drawn := by
  unfold State.midpoint
  repeat' split
  all_goals simp

@[simp] theorem State.fireCadence_frame (s : State) (k : Fin 4) :
    (s.fireCadence k).clock = s.clock ∧ (s.fireCadence k).pins = s.pins ∧ (s.fireCadence k).holds = s.holds ∧
    (s.fireCadence k).profiles = s.profiles ∧ (s.fireCadence k).activeProfile = s.activeProfile ∧
    (s.fireCadence k).sources = s.sources ∧ (s.fireCadence k).epoch = s.epoch ∧
    (s.fireCadence k).counters = s.counters ∧ (s.fireCadence k).decoders = s.decoders ∧
    (s.fireCadence k).link = s.link ∧ (s.fireCadence k).pending = s.pending ∧ (s.fireCadence k).drawn = s.drawn := by
  unfold State.fireCadence
  split <;> simp

end Sys2Proof.Machine
end

