-- ==== Sys2Proof/Laws/Requests.lean ====
section
/-! SUPPORT. What each operation of the counting units, of the requests and of the link leaves as it was (chapters 1, 2, 5, 7, 8 and 9). -/

namespace Sys2Proof.Machine

@[simp] theorem State.wrapTally_frame (s : State) (u : UnitId) (b : Bool) :
    (s.wrapTally u b).clock = s.clock ∧ (s.wrapTally u b).pins = s.pins ∧ (s.wrapTally u b).cadences = s.cadences ∧
    (s.wrapTally u b).holds = s.holds ∧ (s.wrapTally u b).profiles = s.profiles ∧
    (s.wrapTally u b).activeProfile = s.activeProfile ∧ (s.wrapTally u b).sources = s.sources ∧
    (s.wrapTally u b).epoch = s.epoch ∧ (s.wrapTally u b).counters = s.counters ∧
    (s.wrapTally u b).decoders = s.decoders ∧ (s.wrapTally u b).link = s.link ∧
    (s.wrapTally u b).pending = s.pending ∧ (s.wrapTally u b).drawn = s.drawn := by
  unfold State.wrapTally
  split <;> simp

@[simp] theorem State.countEdge_frame (s : State) (u : UnitId) (b : Bool) :
    (s.countEdge u b).clock = s.clock ∧ (s.countEdge u b).pins = s.pins ∧ (s.countEdge u b).cadences = s.cadences ∧
    (s.countEdge u b).holds = s.holds ∧ (s.countEdge u b).profiles = s.profiles ∧
    (s.countEdge u b).activeProfile = s.activeProfile ∧ (s.countEdge u b).sources = s.sources ∧
    (s.countEdge u b).epoch = s.epoch ∧ (s.countEdge u b).decoders = s.decoders ∧ (s.countEdge u b).link = s.link ∧
    (s.countEdge u b).pending = s.pending ∧ (s.countEdge u b).drawn = s.drawn := by
  simp [State.countEdge]

@[simp] theorem State.takePair_frame (s : State) (d : Fin 2) (p : LinePair) :
    (s.takePair d p).clock = s.clock ∧ (s.takePair d p).pins = s.pins ∧ (s.takePair d p).slots = s.slots ∧
    (s.takePair d p).anchors = s.anchors ∧ (s.takePair d p).cadences = s.cadences ∧
    (s.takePair d p).ready = s.ready ∧ (s.takePair d p).conv = s.conv ∧ (s.takePair d p).rings = s.rings ∧
    (s.takePair d p).chans = s.chans ∧ (s.takePair d p).holds = s.holds ∧ (s.takePair d p).profiles = s.profiles ∧
    (s.takePair d p).activeProfile = s.activeProfile ∧ (s.takePair d p).sources = s.sources ∧
    (s.takePair d p).epoch = s.epoch ∧ (s.takePair d p).counters = s.counters ∧ (s.takePair d p).link = s.link ∧
    (s.takePair d p).out = s.out ∧ (s.takePair d p).pending = s.pending ∧ (s.takePair d p).drawn = s.drawn := by
  simp [State.takePair]

@[simp] theorem State.illegalStep_frame (s : State) (d : Fin 2) :
    (s.illegalStep d).clock = s.clock ∧ (s.illegalStep d).pins = s.pins ∧ (s.illegalStep d).slots = s.slots ∧
    (s.illegalStep d).anchors = s.anchors ∧ (s.illegalStep d).cadences = s.cadences ∧
    (s.illegalStep d).ready = s.ready ∧ (s.illegalStep d).conv = s.conv ∧ (s.illegalStep d).rings = s.rings ∧
    (s.illegalStep d).chans = s.chans ∧ (s.illegalStep d).holds = s.holds ∧ (s.illegalStep d).profiles = s.profiles ∧
    (s.illegalStep d).activeProfile = s.activeProfile ∧ (s.illegalStep d).sources = s.sources ∧
    (s.illegalStep d).epoch = s.epoch ∧ (s.illegalStep d).counters = s.counters ∧ (s.illegalStep d).link = s.link ∧
    (s.illegalStep d).pending = s.pending ∧ (s.illegalStep d).drawn = s.drawn := by
  simp [State.illegalStep]

@[simp] theorem State.decode_frame (s : State) (d : Fin 2) (p : LinePair) :
    (s.decode d p).clock = s.clock ∧ (s.decode d p).pins = s.pins ∧ (s.decode d p).cadences = s.cadences ∧
    (s.decode d p).holds = s.holds ∧ (s.decode d p).profiles = s.profiles ∧
    (s.decode d p).activeProfile = s.activeProfile ∧ (s.decode d p).sources = s.sources ∧
    (s.decode d p).epoch = s.epoch ∧ (s.decode d p).link = s.link ∧ (s.decode d p).pending = s.pending ∧
    (s.decode d p).drawn = s.drawn := by
  simp only [State.decode]
  repeat' split
  all_goals simp

@[simp] theorem State.quadrature_frame (s : State) (d : Fin 2) (p : LinePair) :
    (s.quadrature d p).clock = s.clock ∧ (s.quadrature d p).cadences = s.cadences ∧
    (s.quadrature d p).holds = s.holds ∧ (s.quadrature d p).profiles = s.profiles ∧
    (s.quadrature d p).activeProfile = s.activeProfile ∧ (s.quadrature d p).sources = s.sources ∧
    (s.quadrature d p).epoch = s.epoch ∧ (s.quadrature d p).link = s.link ∧ (s.quadrature d p).pending = s.pending ∧
    (s.quadrature d p).drawn = s.drawn := by
  simp [State.quadrature]

@[simp] theorem State.wrappingEdge_frame (s : State) (u : UnitId) (b : Bool) :
    (s.wrappingEdge u b).clock = s.clock ∧ (s.wrappingEdge u b).cadences = s.cadences ∧
    (s.wrappingEdge u b).holds = s.holds ∧ (s.wrappingEdge u b).profiles = s.profiles ∧
    (s.wrappingEdge u b).activeProfile = s.activeProfile ∧ (s.wrappingEdge u b).sources = s.sources ∧
    (s.wrappingEdge u b).epoch = s.epoch ∧ (s.wrappingEdge u b).link = s.link ∧
    (s.wrappingEdge u b).pending = s.pending ∧ (s.wrappingEdge u b).drawn = s.drawn := by
  unfold State.wrappingEdge
  repeat' split
  all_goals simp

@[simp] theorem State.expireGrace_frame (s : State) (u : UnitId) :
    (s.expireGrace u).clock = s.clock ∧ (s.expireGrace u).pins = s.pins ∧ (s.expireGrace u).slots = s.slots ∧
    (s.expireGrace u).anchors = s.anchors ∧ (s.expireGrace u).cadences = s.cadences ∧
    (s.expireGrace u).ready = s.ready ∧ (s.expireGrace u).conv = s.conv ∧ (s.expireGrace u).rings = s.rings ∧
    (s.expireGrace u).chans = s.chans ∧ (s.expireGrace u).holds = s.holds ∧ (s.expireGrace u).profiles = s.profiles ∧
    (s.expireGrace u).activeProfile = s.activeProfile ∧ (s.expireGrace u).sources = s.sources ∧
    (s.expireGrace u).epoch = s.epoch ∧ (s.expireGrace u).decoders = s.decoders ∧ (s.expireGrace u).link = s.link ∧
    (s.expireGrace u).out = s.out ∧ (s.expireGrace u).pending = s.pending ∧ (s.expireGrace u).drawn = s.drawn := by
  unfold State.expireGrace
  split <;> simp

@[simp] theorem State.disarmStalled_frame (s : State) (u : UnitId) :
    (s.disarmStalled u).clock = s.clock ∧ (s.disarmStalled u).pins = s.pins ∧ (s.disarmStalled u).slots = s.slots ∧
    (s.disarmStalled u).anchors = s.anchors ∧ (s.disarmStalled u).cadences = s.cadences ∧
    (s.disarmStalled u).ready = s.ready ∧ (s.disarmStalled u).conv = s.conv ∧ (s.disarmStalled u).rings = s.rings ∧
    (s.disarmStalled u).chans = s.chans ∧ (s.disarmStalled u).holds = s.holds ∧
    (s.disarmStalled u).profiles = s.profiles ∧ (s.disarmStalled u).activeProfile = s.activeProfile ∧
    (s.disarmStalled u).sources = s.sources ∧ (s.disarmStalled u).epoch = s.epoch ∧
    (s.disarmStalled u).decoders = s.decoders ∧ (s.disarmStalled u).link = s.link ∧ (s.disarmStalled u).out = s.out ∧
    (s.disarmStalled u).pending = s.pending ∧ (s.disarmStalled u).drawn = s.drawn := by
  simp [State.disarmStalled]

@[simp] theorem State.stallWork_frame (s : State) (u : UnitId) :
    (s.stallWork u).clock = s.clock ∧ (s.stallWork u).pins = s.pins ∧ (s.stallWork u).cadences = s.cadences ∧
    (s.stallWork u).holds = s.holds ∧ (s.stallWork u).profiles = s.profiles ∧
    (s.stallWork u).activeProfile = s.activeProfile ∧ (s.stallWork u).decoders = s.decoders ∧
    (s.stallWork u).link = s.link ∧ (s.stallWork u).pending = s.pending ∧ (s.stallWork u).drawn = s.drawn := by
  simp [State.stallWork]

@[simp] theorem State.detectStall_frame (s : State) (u : UnitId) :
    (s.detectStall u).clock = s.clock ∧ (s.detectStall u).pins = s.pins ∧ (s.detectStall u).cadences = s.cadences ∧
    (s.detectStall u).holds = s.holds ∧ (s.detectStall u).profiles = s.profiles ∧
    (s.detectStall u).activeProfile = s.activeProfile ∧ (s.detectStall u).decoders = s.decoders ∧
    (s.detectStall u).link = s.link ∧ (s.detectStall u).pending = s.pending ∧ (s.detectStall u).drawn = s.drawn := by
  unfold State.detectStall
  split <;> simp

@[simp] theorem State.compareGrace_frame (s : State) (u : UnitId) (b : Bool) :
    (s.compareGrace u b).clock = s.clock ∧ (s.compareGrace u b).pins = s.pins ∧
    (s.compareGrace u b).slots = s.slots ∧ (s.compareGrace u b).anchors = s.anchors ∧
    (s.compareGrace u b).cadences = s.cadences ∧ (s.compareGrace u b).ready = s.ready ∧
    (s.compareGrace u b).conv = s.conv ∧ (s.compareGrace u b).rings = s.rings ∧
    (s.compareGrace u b).chans = s.chans ∧ (s.compareGrace u b).holds = s.holds ∧
    (s.compareGrace u b).profiles = s.profiles ∧ (s.compareGrace u b).activeProfile = s.activeProfile ∧
    (s.compareGrace u b).sources = s.sources ∧ (s.compareGrace u b).epoch = s.epoch ∧
    (s.compareGrace u b).decoders = s.decoders ∧ (s.compareGrace u b).link = s.link ∧
    (s.compareGrace u b).out = s.out ∧ (s.compareGrace u b).pending = s.pending ∧
    (s.compareGrace u b).drawn = s.drawn := by
  unfold State.compareGrace
  split <;> simp

@[simp] theorem State.writeCounter_frame (s : State) (u : UnitId) (w : CounterWrite) :
    (s.writeCounter u w).clock = s.clock ∧ (s.writeCounter u w).pins = s.pins ∧
    (s.writeCounter u w).slots = s.slots ∧ (s.writeCounter u w).anchors = s.anchors ∧
    (s.writeCounter u w).cadences = s.cadences ∧ (s.writeCounter u w).ready = s.ready ∧
    (s.writeCounter u w).conv = s.conv ∧ (s.writeCounter u w).rings = s.rings ∧
    (s.writeCounter u w).chans = s.chans ∧ (s.writeCounter u w).holds = s.holds ∧
    (s.writeCounter u w).profiles = s.profiles ∧ (s.writeCounter u w).activeProfile = s.activeProfile ∧
    (s.writeCounter u w).sources = s.sources ∧ (s.writeCounter u w).epoch = s.epoch ∧
    (s.writeCounter u w).decoders = s.decoders ∧ (s.writeCounter u w).link = s.link ∧
    (s.writeCounter u w).out = s.out ∧ (s.writeCounter u w).pending = s.pending ∧
    (s.writeCounter u w).drawn = s.drawn := by
  simp [State.writeCounter]

@[simp] theorem State.seePin_frame (s : State) (n : SourceId) :
    (s.seePin n).clock = s.clock ∧ (s.seePin n).pins = s.pins ∧ (s.seePin n).cadences = s.cadences ∧
    (s.seePin n).holds = s.holds ∧ (s.seePin n).profiles = s.profiles ∧
    (s.seePin n).activeProfile = s.activeProfile ∧ (s.seePin n).decoders = s.decoders ∧ (s.seePin n).link = s.link ∧
    (s.seePin n).pending = s.pending ∧ (s.seePin n).drawn = s.drawn := by
  unfold State.seePin
  split <;> simp

@[simp] theorem State.writeGuard_frame (s : State) (n : SourceId) (w : GuardWrite) :
    (s.writeGuard n w).clock = s.clock ∧ (s.writeGuard n w).pins = s.pins ∧
    (s.writeGuard n w).cadences = s.cadences ∧ (s.writeGuard n w).holds = s.holds ∧
    (s.writeGuard n w).profiles = s.profiles ∧ (s.writeGuard n w).activeProfile = s.activeProfile ∧
    (s.writeGuard n w).decoders = s.decoders ∧ (s.writeGuard n w).link = s.link ∧
    (s.writeGuard n w).pending = s.pending ∧ (s.writeGuard n w).drawn = s.drawn := by
  simp [State.writeGuard]

@[simp] theorem State.afterClear_frame (s : State) (n : SourceId) :
    (s.afterClear n).clock = s.clock ∧ (s.afterClear n).pins = s.pins ∧ (s.afterClear n).cadences = s.cadences ∧
    (s.afterClear n).holds = s.holds ∧ (s.afterClear n).profiles = s.profiles ∧
    (s.afterClear n).activeProfile = s.activeProfile ∧ (s.afterClear n).decoders = s.decoders ∧
    (s.afterClear n).link = s.link ∧ (s.afterClear n).pending = s.pending ∧ (s.afterClear n).drawn = s.drawn := by
  unfold State.afterClear
  repeat' split
  all_goals simp

@[simp] theorem State.clearTrip_frame (s : State) (n : SourceId) :
    (s.clearTrip n).clock = s.clock ∧ (s.clearTrip n).pins = s.pins ∧ (s.clearTrip n).cadences = s.cadences ∧
    (s.clearTrip n).holds = s.holds ∧ (s.clearTrip n).profiles = s.profiles ∧
    (s.clearTrip n).activeProfile = s.activeProfile ∧ (s.clearTrip n).decoders = s.decoders ∧
    (s.clearTrip n).link = s.link ∧ (s.clearTrip n).pending = s.pending ∧ (s.clearTrip n).drawn = s.drawn := by
  unfold State.clearTrip
  split <;> simp

@[simp] theorem State.writeDivider_frame (s : State) (a : AnchorId) (d : Option Nat) :
    (s.writeDivider a d).clock = s.clock ∧ (s.writeDivider a d).pins = s.pins ∧
    (s.writeDivider a d).slots = s.slots ∧ (s.writeDivider a d).anchors = s.anchors ∧
    (s.writeDivider a d).cadences = s.cadences ∧ (s.writeDivider a d).ready = s.ready ∧
    (s.writeDivider a d).conv = s.conv ∧ (s.writeDivider a d).rings = s.rings ∧
    (s.writeDivider a d).holds = s.holds ∧ (s.writeDivider a d).profiles = s.profiles ∧
    (s.writeDivider a d).activeProfile = s.activeProfile ∧ (s.writeDivider a d).sources = s.sources ∧
    (s.writeDivider a d).epoch = s.epoch ∧ (s.writeDivider a d).counters = s.counters ∧
    (s.writeDivider a d).decoders = s.decoders ∧ (s.writeDivider a d).link = s.link ∧
    (s.writeDivider a d).out = s.out ∧ (s.writeDivider a d).pending = s.pending ∧
    (s.writeDivider a d).drawn = s.drawn := by
  unfold State.writeDivider
  split <;> simp

@[simp] theorem State.writePeriod_frame (s : State) (a : AnchorId) (d : Option Nat) :
    (s.writePeriod a d).clock = s.clock ∧ (s.writePeriod a d).pins = s.pins ∧ (s.writePeriod a d).slots = s.slots ∧
    (s.writePeriod a d).anchors = s.anchors ∧ (s.writePeriod a d).ready = s.ready ∧
    (s.writePeriod a d).conv = s.conv ∧ (s.writePeriod a d).rings = s.rings ∧ (s.writePeriod a d).chans = s.chans ∧
    (s.writePeriod a d).holds = s.holds ∧ (s.writePeriod a d).profiles = s.profiles ∧
    (s.writePeriod a d).activeProfile = s.activeProfile ∧ (s.writePeriod a d).sources = s.sources ∧
    (s.writePeriod a d).epoch = s.epoch ∧ (s.writePeriod a d).counters = s.counters ∧
    (s.writePeriod a d).decoders = s.decoders ∧ (s.writePeriod a d).link = s.link ∧ (s.writePeriod a d).out = s.out ∧
    (s.writePeriod a d).pending = s.pending ∧ (s.writePeriod a d).drawn = s.drawn := by
  unfold State.writePeriod
  split <;> simp

@[simp] theorem State.writeAnchor_frame (s : State) (a : AnchorId) (w : AnchorWrite) :
    (s.writeAnchor a w).clock = s.clock ∧ (s.writeAnchor a w).pins = s.pins ∧ (s.writeAnchor a w).slots = s.slots ∧
    (s.writeAnchor a w).ready = s.ready ∧ (s.writeAnchor a w).conv = s.conv ∧ (s.writeAnchor a w).rings = s.rings ∧
    (s.writeAnchor a w).holds = s.holds ∧ (s.writeAnchor a w).profiles = s.profiles ∧
    (s.writeAnchor a w).activeProfile = s.activeProfile ∧ (s.writeAnchor a w).sources = s.sources ∧
    (s.writeAnchor a w).epoch = s.epoch ∧ (s.writeAnchor a w).counters = s.counters ∧
    (s.writeAnchor a w).decoders = s.decoders ∧ (s.writeAnchor a w).link = s.link ∧ (s.writeAnchor a w).out = s.out ∧
    (s.writeAnchor a w).pending = s.pending ∧ (s.writeAnchor a w).drawn = s.drawn := by
  simp [State.writeAnchor]

@[simp] theorem State.placeArmed_frame (s : State) (x : SlotId) :
    (s.placeArmed x).clock = s.clock ∧ (s.placeArmed x).pins = s.pins ∧ (s.placeArmed x).cadences = s.cadences ∧
    (s.placeArmed x).conv = s.conv ∧ (s.placeArmed x).rings = s.rings ∧ (s.placeArmed x).chans = s.chans ∧
    (s.placeArmed x).holds = s.holds ∧ (s.placeArmed x).profiles = s.profiles ∧
    (s.placeArmed x).activeProfile = s.activeProfile ∧ (s.placeArmed x).sources = s.sources ∧
    (s.placeArmed x).epoch = s.epoch ∧ (s.placeArmed x).counters = s.counters ∧
    (s.placeArmed x).decoders = s.decoders ∧ (s.placeArmed x).link = s.link ∧ (s.placeArmed x).out = s.out ∧
    (s.placeArmed x).pending = s.pending ∧ (s.placeArmed x).drawn = s.drawn := by
  unfold State.placeArmed
  split <;> simp

@[simp] theorem State.armSlot_frame (s : State) (x : SlotId) :
    (s.armSlot x).clock = s.clock ∧ (s.armSlot x).pins = s.pins ∧ (s.armSlot x).cadences = s.cadences ∧
    (s.armSlot x).conv = s.conv ∧ (s.armSlot x).rings = s.rings ∧ (s.armSlot x).chans = s.chans ∧
    (s.armSlot x).holds = s.holds ∧ (s.armSlot x).profiles = s.profiles ∧
    (s.armSlot x).activeProfile = s.activeProfile ∧ (s.armSlot x).sources = s.sources ∧
    (s.armSlot x).epoch = s.epoch ∧ (s.armSlot x).counters = s.counters ∧ (s.armSlot x).decoders = s.decoders ∧
    (s.armSlot x).link = s.link ∧ (s.armSlot x).out = s.out ∧ (s.armSlot x).pending = s.pending ∧
    (s.armSlot x).drawn = s.drawn := by
  simp [State.armSlot]

@[simp] theorem State.leaveWait_frame (s : State) (x : SlotId) :
    (s.leaveWait x).clock = s.clock ∧ (s.leaveWait x).pins = s.pins ∧ (s.leaveWait x).slots = s.slots ∧
    (s.leaveWait x).cadences = s.cadences ∧ (s.leaveWait x).ready = s.ready ∧ (s.leaveWait x).conv = s.conv ∧
    (s.leaveWait x).rings = s.rings ∧ (s.leaveWait x).chans = s.chans ∧ (s.leaveWait x).holds = s.holds ∧
    (s.leaveWait x).profiles = s.profiles ∧ (s.leaveWait x).activeProfile = s.activeProfile ∧
    (s.leaveWait x).sources = s.sources ∧ (s.leaveWait x).epoch = s.epoch ∧ (s.leaveWait x).counters = s.counters ∧
    (s.leaveWait x).decoders = s.decoders ∧ (s.leaveWait x).link = s.link ∧ (s.leaveWait x).out = s.out ∧
    (s.leaveWait x).pending = s.pending ∧ (s.leaveWait x).drawn = s.drawn := by
  unfold State.leaveWait
  split <;> simp

@[simp] theorem State.leaveReady_frame (s : State) (x : SlotId) :
    (s.leaveReady x).clock = s.clock ∧ (s.leaveReady x).pins = s.pins ∧ (s.leaveReady x).slots = s.slots ∧
    (s.leaveReady x).anchors = s.anchors ∧ (s.leaveReady x).cadences = s.cadences ∧ (s.leaveReady x).conv = s.conv ∧
    (s.leaveReady x).rings = s.rings ∧ (s.leaveReady x).chans = s.chans ∧ (s.leaveReady x).holds = s.holds ∧
    (s.leaveReady x).profiles = s.profiles ∧ (s.leaveReady x).activeProfile = s.activeProfile ∧
    (s.leaveReady x).sources = s.sources ∧ (s.leaveReady x).epoch = s.epoch ∧
    (s.leaveReady x).counters = s.counters ∧ (s.leaveReady x).decoders = s.decoders ∧
    (s.leaveReady x).link = s.link ∧ (s.leaveReady x).out = s.out ∧ (s.leaveReady x).pending = s.pending ∧
    (s.leaveReady x).drawn = s.drawn := by
  simp [State.leaveReady]

@[simp] theorem State.cancelSlot_frame (s : State) (x : SlotId) :
    (s.cancelSlot x).clock = s.clock ∧ (s.cancelSlot x).pins = s.pins ∧ (s.cancelSlot x).cadences = s.cadences ∧
    (s.cancelSlot x).holds = s.holds ∧ (s.cancelSlot x).profiles = s.profiles ∧
    (s.cancelSlot x).activeProfile = s.activeProfile ∧ (s.cancelSlot x).sources = s.sources ∧
    (s.cancelSlot x).epoch = s.epoch ∧ (s.cancelSlot x).counters = s.counters ∧
    (s.cancelSlot x).decoders = s.decoders ∧ (s.cancelSlot x).link = s.link ∧
    (s.cancelSlot x).pending = s.pending ∧ (s.cancelSlot x).drawn = s.drawn := by
  unfold State.cancelSlot
  split <;> simp

@[simp] theorem State.writeHoldTime_frame (s : State) (c : ChanId) (t : Option Nat) :
    (s.writeHoldTime c t).clock = s.clock ∧ (s.writeHoldTime c t).pins = s.pins ∧
    (s.writeHoldTime c t).slots = s.slots ∧ (s.writeHoldTime c t).anchors = s.anchors ∧
    (s.writeHoldTime c t).cadences = s.cadences ∧ (s.writeHoldTime c t).ready = s.ready ∧
    (s.writeHoldTime c t).conv = s.conv ∧ (s.writeHoldTime c t).rings = s.rings ∧
    (s.writeHoldTime c t).chans = s.chans ∧ (s.writeHoldTime c t).profiles = s.profiles ∧
    (s.writeHoldTime c t).activeProfile = s.activeProfile ∧ (s.writeHoldTime c t).sources = s.sources ∧
    (s.writeHoldTime c t).epoch = s.epoch ∧ (s.writeHoldTime c t).counters = s.counters ∧
    (s.writeHoldTime c t).decoders = s.decoders ∧ (s.writeHoldTime c t).link = s.link ∧
    (s.writeHoldTime c t).out = s.out ∧ (s.writeHoldTime c t).pending = s.pending ∧
    (s.writeHoldTime c t).drawn = s.drawn := by
  unfold State.writeHoldTime
  split <;> simp

@[simp] theorem State.takePeriod_frame (s : State) (c : ChanId) :
    (s.takePeriod c).clock = s.clock ∧ (s.takePeriod c).pins = s.pins ∧ (s.takePeriod c).slots = s.slots ∧
    (s.takePeriod c).anchors = s.anchors ∧ (s.takePeriod c).cadences = s.cadences ∧
    (s.takePeriod c).ready = s.ready ∧ (s.takePeriod c).conv = s.conv ∧ (s.takePeriod c).rings = s.rings ∧
    (s.takePeriod c).holds = s.holds ∧ (s.takePeriod c).profiles = s.profiles ∧
    (s.takePeriod c).activeProfile = s.activeProfile ∧ (s.takePeriod c).sources = s.sources ∧
    (s.takePeriod c).epoch = s.epoch ∧ (s.takePeriod c).decoders = s.decoders ∧ (s.takePeriod c).link = s.link ∧
    (s.takePeriod c).out = s.out ∧ (s.takePeriod c).pending = s.pending ∧ (s.takePeriod c).drawn = s.drawn := by
  unfold State.takePeriod
  split <;> simp

@[simp] theorem State.enableChannel_frame (s : State) (c : ChanId) :
    (s.enableChannel c).clock = s.clock ∧ (s.enableChannel c).pins = s.pins ∧ (s.enableChannel c).slots = s.slots ∧
    (s.enableChannel c).anchors = s.anchors ∧ (s.enableChannel c).cadences = s.cadences ∧
    (s.enableChannel c).ready = s.ready ∧ (s.enableChannel c).conv = s.conv ∧ (s.enableChannel c).rings = s.rings ∧
    (s.enableChannel c).holds = s.holds ∧ (s.enableChannel c).profiles = s.profiles ∧
    (s.enableChannel c).activeProfile = s.activeProfile ∧ (s.enableChannel c).sources = s.sources ∧
    (s.enableChannel c).epoch = s.epoch ∧ (s.enableChannel c).decoders = s.decoders ∧
    (s.enableChannel c).link = s.link ∧ (s.enableChannel c).out = s.out ∧ (s.enableChannel c).pending = s.pending ∧
    (s.enableChannel c).drawn = s.drawn := by
  simp [State.enableChannel]

@[simp] theorem State.disableChannel_frame (s : State) (c : ChanId) :
    (s.disableChannel c).clock = s.clock ∧ (s.disableChannel c).pins = s.pins ∧
    (s.disableChannel c).slots = s.slots ∧ (s.disableChannel c).anchors = s.anchors ∧
    (s.disableChannel c).cadences = s.cadences ∧ (s.disableChannel c).ready = s.ready ∧
    (s.disableChannel c).conv = s.conv ∧ (s.disableChannel c).rings = s.rings ∧
    (s.disableChannel c).holds = s.holds ∧ (s.disableChannel c).profiles = s.profiles ∧
    (s.disableChannel c).activeProfile = s.activeProfile ∧ (s.disableChannel c).sources = s.sources ∧
    (s.disableChannel c).epoch = s.epoch ∧ (s.disableChannel c).decoders = s.decoders ∧
    (s.disableChannel c).link = s.link ∧ (s.disableChannel c).out = s.out ∧
    (s.disableChannel c).pending = s.pending ∧ (s.disableChannel c).drawn = s.drawn := by
  simp [State.disableChannel]

@[simp] theorem State.writeEnable_frame (s : State) (c : ChanId) (b : Option Bool) :
    (s.writeEnable c b).clock = s.clock ∧ (s.writeEnable c b).pins = s.pins ∧ (s.writeEnable c b).slots = s.slots ∧
    (s.writeEnable c b).anchors = s.anchors ∧ (s.writeEnable c b).cadences = s.cadences ∧
    (s.writeEnable c b).ready = s.ready ∧ (s.writeEnable c b).conv = s.conv ∧ (s.writeEnable c b).rings = s.rings ∧
    (s.writeEnable c b).holds = s.holds ∧ (s.writeEnable c b).profiles = s.profiles ∧
    (s.writeEnable c b).activeProfile = s.activeProfile ∧ (s.writeEnable c b).sources = s.sources ∧
    (s.writeEnable c b).epoch = s.epoch ∧ (s.writeEnable c b).decoders = s.decoders ∧
    (s.writeEnable c b).link = s.link ∧ (s.writeEnable c b).out = s.out ∧ (s.writeEnable c b).pending = s.pending ∧
    (s.writeEnable c b).drawn = s.drawn := by
  unfold State.writeEnable
  repeat' split
  all_goals simp

@[simp] theorem State.afterChannelWrite_frame (s : State) (c : ChanId) (w : ChannelWrite) :
    (s.afterChannelWrite c w).clock = s.clock ∧ (s.afterChannelWrite c w).pins = s.pins ∧
    (s.afterChannelWrite c w).slots = s.slots ∧ (s.afterChannelWrite c w).anchors = s.anchors ∧
    (s.afterChannelWrite c w).cadences = s.cadences ∧ (s.afterChannelWrite c w).ready = s.ready ∧
    (s.afterChannelWrite c w).conv = s.conv ∧ (s.afterChannelWrite c w).rings = s.rings ∧
    (s.afterChannelWrite c w).holds = s.holds ∧ (s.afterChannelWrite c w).profiles = s.profiles ∧
    (s.afterChannelWrite c w).activeProfile = s.activeProfile ∧ (s.afterChannelWrite c w).sources = s.sources ∧
    (s.afterChannelWrite c w).epoch = s.epoch ∧ (s.afterChannelWrite c w).decoders = s.decoders ∧
    (s.afterChannelWrite c w).link = s.link ∧ (s.afterChannelWrite c w).out = s.out ∧
    (s.afterChannelWrite c w).pending = s.pending ∧ (s.afterChannelWrite c w).drawn = s.drawn := by
  unfold State.afterChannelWrite
  repeat' split
  all_goals simp

@[simp] theorem State.writeChannel_frame (s : State) (c : ChanId) (w : ChannelWrite) :
    (s.writeChannel c w).clock = s.clock ∧ (s.writeChannel c w).pins = s.pins ∧
    (s.writeChannel c w).slots = s.slots ∧ (s.writeChannel c w).anchors = s.anchors ∧
    (s.writeChannel c w).cadences = s.cadences ∧ (s.writeChannel c w).ready = s.ready ∧
    (s.writeChannel c w).conv = s.conv ∧ (s.writeChannel c w).rings = s.rings ∧
    (s.writeChannel c w).profiles = s.profiles ∧ (s.writeChannel c w).activeProfile = s.activeProfile ∧
    (s.writeChannel c w).sources = s.sources ∧ (s.writeChannel c w).epoch = s.epoch ∧
    (s.writeChannel c w).decoders = s.decoders ∧ (s.writeChannel c w).link = s.link ∧
    (s.writeChannel c w).out = s.out ∧ (s.writeChannel c w).pending = s.pending ∧
    (s.writeChannel c w).drawn = s.drawn := by
  simp [State.writeChannel]

@[simp] theorem State.restartHold_frame (s : State) (g : HoldGroup) :
    (s.restartHold g).clock = s.clock ∧ (s.restartHold g).pins = s.pins ∧ (s.restartHold g).slots = s.slots ∧
    (s.restartHold g).anchors = s.anchors ∧ (s.restartHold g).cadences = s.cadences ∧
    (s.restartHold g).ready = s.ready ∧ (s.restartHold g).conv = s.conv ∧ (s.restartHold g).rings = s.rings ∧
    (s.restartHold g).chans = s.chans ∧ (s.restartHold g).profiles = s.profiles ∧
    (s.restartHold g).activeProfile = s.activeProfile ∧ (s.restartHold g).sources = s.sources ∧
    (s.restartHold g).epoch = s.epoch ∧ (s.restartHold g).counters = s.counters ∧
    (s.restartHold g).decoders = s.decoders ∧ (s.restartHold g).link = s.link ∧ (s.restartHold g).out = s.out ∧
    (s.restartHold g).pending = s.pending ∧ (s.restartHold g).drawn = s.drawn := by
  simp [State.restartHold]

@[simp] theorem State.restartHolds_frame (s : State) (d : DriveRequest) :
    (s.restartHolds d).clock = s.clock ∧ (s.restartHolds d).pins = s.pins ∧ (s.restartHolds d).slots = s.slots ∧
    (s.restartHolds d).anchors = s.anchors ∧ (s.restartHolds d).cadences = s.cadences ∧
    (s.restartHolds d).ready = s.ready ∧ (s.restartHolds d).conv = s.conv ∧ (s.restartHolds d).rings = s.rings ∧
    (s.restartHolds d).chans = s.chans ∧ (s.restartHolds d).profiles = s.profiles ∧
    (s.restartHolds d).activeProfile = s.activeProfile ∧ (s.restartHolds d).sources = s.sources ∧
    (s.restartHolds d).epoch = s.epoch ∧ (s.restartHolds d).counters = s.counters ∧
    (s.restartHolds d).decoders = s.decoders ∧ (s.restartHolds d).link = s.link ∧ (s.restartHolds d).out = s.out ∧
    (s.restartHolds d).pending = s.pending ∧ (s.restartHolds d).drawn = s.drawn := by
  simp only [State.restartHolds]
  repeat' split
  all_goals simp

@[simp] theorem State.setTargets_frame (s : State) (d : DriveRequest) :
    (s.setTargets d).clock = s.clock ∧ (s.setTargets d).pins = s.pins ∧ (s.setTargets d).slots = s.slots ∧
    (s.setTargets d).anchors = s.anchors ∧ (s.setTargets d).cadences = s.cadences ∧
    (s.setTargets d).ready = s.ready ∧ (s.setTargets d).conv = s.conv ∧ (s.setTargets d).rings = s.rings ∧
    (s.setTargets d).holds = s.holds ∧ (s.setTargets d).profiles = s.profiles ∧
    (s.setTargets d).activeProfile = s.activeProfile ∧ (s.setTargets d).sources = s.sources ∧
    (s.setTargets d).epoch = s.epoch ∧ (s.setTargets d).counters = s.counters ∧
    (s.setTargets d).decoders = s.decoders ∧ (s.setTargets d).link = s.link ∧ (s.setTargets d).out = s.out ∧
    (s.setTargets d).pending = s.pending ∧ (s.setTargets d).drawn = s.drawn := by
  simp only [State.setTargets, allChans, List.foldl_cons, List.foldl_nil]
  repeat' split
  all_goals simp

@[simp] theorem State.applyDrive_frame (s : State) (d : DriveRequest) :
    (s.applyDrive d).clock = s.clock ∧ (s.applyDrive d).pins = s.pins ∧ (s.applyDrive d).slots = s.slots ∧
    (s.applyDrive d).anchors = s.anchors ∧ (s.applyDrive d).cadences = s.cadences ∧
    (s.applyDrive d).ready = s.ready ∧ (s.applyDrive d).conv = s.conv ∧ (s.applyDrive d).rings = s.rings ∧
    (s.applyDrive d).profiles = s.profiles ∧ (s.applyDrive d).activeProfile = s.activeProfile ∧
    (s.applyDrive d).sources = s.sources ∧ (s.applyDrive d).epoch = s.epoch ∧
    (s.applyDrive d).counters = s.counters ∧ (s.applyDrive d).decoders = s.decoders ∧
    (s.applyDrive d).link = s.link ∧ (s.applyDrive d).out = s.out ∧ (s.applyDrive d).pending = s.pending ∧
    (s.applyDrive d).drawn = s.drawn := by
  simp [State.applyDrive]

@[simp] theorem State.stopChannel_frame (b : Bool) (s : State) (c : ChanId) :
    (State.stopChannel b s c).clock = s.clock ∧ (State.stopChannel b s c).pins = s.pins ∧
    (State.stopChannel b s c).slots = s.slots ∧ (State.stopChannel b s c).anchors = s.anchors ∧
    (State.stopChannel b s c).cadences = s.cadences ∧ (State.stopChannel b s c).ready = s.ready ∧
    (State.stopChannel b s c).conv = s.conv ∧ (State.stopChannel b s c).rings = s.rings ∧
    (State.stopChannel b s c).holds = s.holds ∧ (State.stopChannel b s c).profiles = s.profiles ∧
    (State.stopChannel b s c).activeProfile = s.activeProfile ∧ (State.stopChannel b s c).sources = s.sources ∧
    (State.stopChannel b s c).epoch = s.epoch ∧ (State.stopChannel b s c).decoders = s.decoders ∧
    (State.stopChannel b s c).link = s.link ∧ (State.stopChannel b s c).out = s.out ∧
    (State.stopChannel b s c).pending = s.pending ∧ (State.stopChannel b s c).drawn = s.drawn := by
  cases b <;> simp [State.stopChannel]

/-- Work on the enabled channels that leaves a field leaves it. -/
theorem State.onEnabled_keeps {β : Type} (field : State → β) (work : State → ChanId → State)
    (h : ∀ s c, field (work s c) = field s) (s : State) : field (s.onEnabled work) = field s := by
  have step : ∀ (l : List ChanId) (s : State),
      field (l.foldl (fun s c => if (s.chan c).state = .off then s else work s c) s) = field s := by
    intro l
    induction l with
    | nil => intro s; rfl
    | cons c l ih =>
      intro s
      simp only [List.foldl_cons]
      rw [ih]
      split
      · rfl
      · exact h s c
  exact step allChans s

@[simp] theorem State.stopEnabled_frame (b : Bool) (s : State) :
    (s.onEnabled (State.stopChannel b)).clock = s.clock ∧ (s.onEnabled (State.stopChannel b)).pins = s.pins ∧
    (s.onEnabled (State.stopChannel b)).slots = s.slots ∧ (s.onEnabled (State.stopChannel b)).anchors = s.anchors ∧
    (s.onEnabled (State.stopChannel b)).cadences = s.cadences ∧ (s.onEnabled (State.stopChannel b)).ready = s.ready ∧
    (s.onEnabled (State.stopChannel b)).conv = s.conv ∧ (s.onEnabled (State.stopChannel b)).rings = s.rings ∧
    (s.onEnabled (State.stopChannel b)).holds = s.holds ∧ (s.onEnabled (State.stopChannel b)).profiles = s.profiles ∧
    (s.onEnabled (State.stopChannel b)).activeProfile = s.activeProfile ∧
    (s.onEnabled (State.stopChannel b)).sources = s.sources ∧ (s.onEnabled (State.stopChannel b)).epoch = s.epoch ∧
    (s.onEnabled (State.stopChannel b)).decoders = s.decoders ∧ (s.onEnabled (State.stopChannel b)).link = s.link ∧
    (s.onEnabled (State.stopChannel b)).out = s.out ∧ (s.onEnabled (State.stopChannel b)).pending = s.pending ∧
    (s.onEnabled (State.stopChannel b)).drawn = s.drawn :=
  ⟨State.onEnabled_keeps State.clock _ (fun s c => by simp) s,
   State.onEnabled_keeps State.pins _ (fun s c => by simp) s,
   State.onEnabled_keeps State.slots _ (fun s c => by simp) s,
   State.onEnabled_keeps State.anchors _ (fun s c => by simp) s,
   State.onEnabled_keeps State.cadences _ (fun s c => by simp) s,
   State.onEnabled_keeps State.ready _ (fun s c => by simp) s,
   State.onEnabled_keeps State.conv _ (fun s c => by simp) s,
   State.onEnabled_keeps State.rings _ (fun s c => by simp) s,
   State.onEnabled_keeps State.holds _ (fun s c => by simp) s,
   State.onEnabled_keeps State.profiles _ (fun s c => by simp) s,
   State.onEnabled_keeps State.activeProfile _ (fun s c => by simp) s,
   State.onEnabled_keeps State.sources _ (fun s c => by simp) s,
   State.onEnabled_keeps State.epoch _ (fun s c => by simp) s,
   State.onEnabled_keeps State.decoders _ (fun s c => by simp) s,
   State.onEnabled_keeps State.link _ (fun s c => by simp) s,
   State.onEnabled_keeps State.out _ (fun s c => by simp) s,
   State.onEnabled_keeps State.pending _ (fun s c => by simp) s,
   State.onEnabled_keeps State.drawn _ (fun s c => by simp) s⟩

@[simp] theorem State.zeroEnabled_frame (s : State) :
    (s.onEnabled State.zeroDrive).clock = s.clock ∧ (s.onEnabled State.zeroDrive).pins = s.pins ∧
    (s.onEnabled State.zeroDrive).slots = s.slots ∧ (s.onEnabled State.zeroDrive).anchors = s.anchors ∧
    (s.onEnabled State.zeroDrive).cadences = s.cadences ∧ (s.onEnabled State.zeroDrive).ready = s.ready ∧
    (s.onEnabled State.zeroDrive).conv = s.conv ∧ (s.onEnabled State.zeroDrive).rings = s.rings ∧
    (s.onEnabled State.zeroDrive).holds = s.holds ∧ (s.onEnabled State.zeroDrive).profiles = s.profiles ∧
    (s.onEnabled State.zeroDrive).activeProfile = s.activeProfile ∧
    (s.onEnabled State.zeroDrive).sources = s.sources ∧ (s.onEnabled State.zeroDrive).epoch = s.epoch ∧
    (s.onEnabled State.zeroDrive).decoders = s.decoders ∧ (s.onEnabled State.zeroDrive).link = s.link ∧
    (s.onEnabled State.zeroDrive).out = s.out ∧ (s.onEnabled State.zeroDrive).pending = s.pending ∧
    (s.onEnabled State.zeroDrive).drawn = s.drawn :=
  ⟨State.onEnabled_keeps State.clock _ (fun s c => by simp) s,
   State.onEnabled_keeps State.pins _ (fun s c => by simp) s,
   State.onEnabled_keeps State.slots _ (fun s c => by simp) s,
   State.onEnabled_keeps State.anchors _ (fun s c => by simp) s,
   State.onEnabled_keeps State.cadences _ (fun s c => by simp) s,
   State.onEnabled_keeps State.ready _ (fun s c => by simp) s,
   State.onEnabled_keeps State.conv _ (fun s c => by simp) s,
   State.onEnabled_keeps State.rings _ (fun s c => by simp) s,
   State.onEnabled_keeps State.holds _ (fun s c => by simp) s,
   State.onEnabled_keeps State.profiles _ (fun s c => by simp) s,
   State.onEnabled_keeps State.activeProfile _ (fun s c => by simp) s,
   State.onEnabled_keeps State.sources _ (fun s c => by simp) s,
   State.onEnabled_keeps State.epoch _ (fun s c => by simp) s,
   State.onEnabled_keeps State.decoders _ (fun s c => by simp) s,
   State.onEnabled_keeps State.link _ (fun s c => by simp) s,
   State.onEnabled_keeps State.out _ (fun s c => by simp) s,
   State.onEnabled_keeps State.pending _ (fun s c => by simp) s,
   State.onEnabled_keeps State.drawn _ (fun s c => by simp) s⟩

@[simp] theorem State.stopAll_frame (s : State) (b : Bool) :
    (s.stopAll b).clock = s.clock ∧ (s.stopAll b).pins = s.pins ∧ (s.stopAll b).slots = s.slots ∧
    (s.stopAll b).anchors = s.anchors ∧ (s.stopAll b).cadences = s.cadences ∧ (s.stopAll b).ready = s.ready ∧
    (s.stopAll b).conv = s.conv ∧ (s.stopAll b).rings = s.rings ∧ (s.stopAll b).holds = s.holds ∧
    (s.stopAll b).profiles = s.profiles ∧ (s.stopAll b).activeProfile = s.activeProfile ∧
    (s.stopAll b).sources = s.sources ∧ (s.stopAll b).decoders = s.decoders ∧ (s.stopAll b).link = s.link ∧
    (s.stopAll b).out = s.out ∧ (s.stopAll b).pending = s.pending ∧ (s.stopAll b).drawn = s.drawn := by
  simp [State.stopAll]

@[simp] theorem State.stopMotion_frame (s : State) :
    (s.stopMotion).clock = s.clock ∧ (s.stopMotion).pins = s.pins ∧ (s.stopMotion).slots = s.slots ∧
    (s.stopMotion).anchors = s.anchors ∧ (s.stopMotion).cadences = s.cadences ∧ (s.stopMotion).ready = s.ready ∧
    (s.stopMotion).conv = s.conv ∧ (s.stopMotion).rings = s.rings ∧ (s.stopMotion).holds = s.holds ∧
    (s.stopMotion).profiles = s.profiles ∧ (s.stopMotion).activeProfile = s.activeProfile ∧
    (s.stopMotion).sources = s.sources ∧ (s.stopMotion).epoch = s.epoch ∧ (s.stopMotion).counters = s.counters ∧
    (s.stopMotion).decoders = s.decoders ∧ (s.stopMotion).link = s.link ∧ (s.stopMotion).out = s.out ∧
    (s.stopMotion).pending = s.pending ∧ (s.stopMotion).drawn = s.drawn :=
  ⟨State.onEnabled_keeps State.clock _ (fun s c => by split <;> simp) s,
   State.onEnabled_keeps State.pins _ (fun s c => by split <;> simp) s,
   State.onEnabled_keeps State.slots _ (fun s c => by split <;> simp) s,
   State.onEnabled_keeps State.anchors _ (fun s c => by split <;> simp) s,
   State.onEnabled_keeps State.cadences _ (fun s c => by split <;> simp) s,
   State.onEnabled_keeps State.ready _ (fun s c => by split <;> simp) s,
   State.onEnabled_keeps State.conv _ (fun s c => by split <;> simp) s,
   State.onEnabled_keeps State.rings _ (fun s c => by split <;> simp) s,
   State.onEnabled_keeps State.holds _ (fun s c => by split <;> simp) s,
   State.onEnabled_keeps State.profiles _ (fun s c => by split <;> simp) s,
   State.onEnabled_keeps State.activeProfile _ (fun s c => by split <;> simp) s,
   State.onEnabled_keeps State.sources _ (fun s c => by split <;> simp) s,
   State.onEnabled_keeps State.epoch _ (fun s c => by split <;> simp) s,
   State.onEnabled_keeps State.counters _ (fun s c => by split <;> simp) s,
   State.onEnabled_keeps State.decoders _ (fun s c => by split <;> simp) s,
   State.onEnabled_keeps State.link _ (fun s c => by split <;> simp) s,
   State.onEnabled_keeps State.out _ (fun s c => by split <;> simp) s,
   State.onEnabled_keeps State.pending _ (fun s c => by split <;> simp) s,
   State.onEnabled_keeps State.drawn _ (fun s c => by split <;> simp) s⟩

@[simp] theorem State.writeProfile_frame (s : State) (pf : Fin 4) (c : ChanId) (o : Overrides) :
    (s.writeProfile pf c o).clock = s.clock ∧ (s.writeProfile pf c o).pins = s.pins ∧
    (s.writeProfile pf c o).slots = s.slots ∧ (s.writeProfile pf c o).anchors = s.anchors ∧
    (s.writeProfile pf c o).cadences = s.cadences ∧ (s.writeProfile pf c o).ready = s.ready ∧
    (s.writeProfile pf c o).conv = s.conv ∧ (s.writeProfile pf c o).rings = s.rings ∧
    (s.writeProfile pf c o).holds = s.holds ∧ (s.writeProfile pf c o).activeProfile = s.activeProfile ∧
    (s.writeProfile pf c o).sources = s.sources ∧ (s.writeProfile pf c o).epoch = s.epoch ∧
    (s.writeProfile pf c o).decoders = s.decoders ∧ (s.writeProfile pf c o).link = s.link ∧
    (s.writeProfile pf c o).out = s.out ∧ (s.writeProfile pf c o).pending = s.pending ∧
    (s.writeProfile pf c o).drawn = s.drawn := by
  simp only [State.writeProfile]
  split <;> simp

@[simp] theorem State.selectProfile_frame (s : State) (pf : Fin 4) :
    (s.selectProfile pf).clock = s.clock ∧ (s.selectProfile pf).pins = s.pins ∧
    (s.selectProfile pf).slots = s.slots ∧ (s.selectProfile pf).anchors = s.anchors ∧
    (s.selectProfile pf).cadences = s.cadences ∧ (s.selectProfile pf).ready = s.ready ∧
    (s.selectProfile pf).conv = s.conv ∧ (s.selectProfile pf).rings = s.rings ∧
    (s.selectProfile pf).holds = s.holds ∧ (s.selectProfile pf).profiles = s.profiles ∧
    (s.selectProfile pf).sources = s.sources ∧ (s.selectProfile pf).epoch = s.epoch ∧
    (s.selectProfile pf).decoders = s.decoders ∧ (s.selectProfile pf).link = s.link ∧
    (s.selectProfile pf).out = s.out ∧ (s.selectProfile pf).pending = s.pending ∧
    (s.selectProfile pf).drawn = s.drawn := by
  simp [State.selectProfile, allChans]

@[simp] theorem State.countHold_frame (s : State) (g : HoldGroup) (b : Bool) :
    (s.countHold g b).clock = s.clock ∧ (s.countHold g b).pins = s.pins ∧ (s.countHold g b).slots = s.slots ∧
    (s.countHold g b).anchors = s.anchors ∧ (s.countHold g b).cadences = s.cadences ∧
    (s.countHold g b).ready = s.ready ∧ (s.countHold g b).conv = s.conv ∧ (s.countHold g b).rings = s.rings ∧
    (s.countHold g b).chans = s.chans ∧ (s.countHold g b).profiles = s.profiles ∧
    (s.countHold g b).activeProfile = s.activeProfile ∧ (s.countHold g b).sources = s.sources ∧
    (s.countHold g b).epoch = s.epoch ∧ (s.countHold g b).counters = s.counters ∧
    (s.countHold g b).decoders = s.decoders ∧ (s.countHold g b).link = s.link ∧ (s.countHold g b).out = s.out ∧
    (s.countHold g b).pending = s.pending ∧ (s.countHold g b).drawn = s.drawn := by
  unfold State.countHold
  split <;> simp

@[simp] theorem State.stopBlade_frame (s : State) :
    (s.stopBlade).clock = s.clock ∧ (s.stopBlade).pins = s.pins ∧ (s.stopBlade).slots = s.slots ∧
    (s.stopBlade).anchors = s.anchors ∧ (s.stopBlade).cadences = s.cadences ∧ (s.stopBlade).ready = s.ready ∧
    (s.stopBlade).conv = s.conv ∧ (s.stopBlade).rings = s.rings ∧ (s.stopBlade).holds = s.holds ∧
    (s.stopBlade).profiles = s.profiles ∧ (s.stopBlade).activeProfile = s.activeProfile ∧
    (s.stopBlade).sources = s.sources ∧ (s.stopBlade).epoch = s.epoch ∧ (s.stopBlade).decoders = s.decoders ∧
    (s.stopBlade).link = s.link ∧ (s.stopBlade).out = s.out ∧ (s.stopBlade).pending = s.pending ∧
    (s.stopBlade).drawn = s.drawn := by
  simp only [State.stopBlade]
  split <;> simp

@[simp] theorem State.expireHold_frame (s : State) (g : HoldGroup) :
    (s.expireHold g).clock = s.clock ∧ (s.expireHold g).pins = s.pins ∧ (s.expireHold g).slots = s.slots ∧
    (s.expireHold g).anchors = s.anchors ∧ (s.expireHold g).cadences = s.cadences ∧
    (s.expireHold g).ready = s.ready ∧ (s.expireHold g).conv = s.conv ∧ (s.expireHold g).rings = s.rings ∧
    (s.expireHold g).holds = s.holds ∧ (s.expireHold g).profiles = s.profiles ∧
    (s.expireHold g).activeProfile = s.activeProfile ∧ (s.expireHold g).sources = s.sources ∧
    (s.expireHold g).decoders = s.decoders ∧ (s.expireHold g).link = s.link ∧ (s.expireHold g).pending = s.pending ∧
    (s.expireHold g).drawn = s.drawn := by
  cases g <;> simp [State.expireHold]

@[simp] theorem State.countHolds_frame (s : State) (a : Bool) (b : Bool) :
    (s.countHolds a b).clock = s.clock ∧ (s.countHolds a b).pins = s.pins ∧ (s.countHolds a b).slots = s.slots ∧
    (s.countHolds a b).anchors = s.anchors ∧ (s.countHolds a b).cadences = s.cadences ∧
    (s.countHolds a b).ready = s.ready ∧ (s.countHolds a b).conv = s.conv ∧ (s.countHolds a b).rings = s.rings ∧
    (s.countHolds a b).chans = s.chans ∧ (s.countHolds a b).profiles = s.profiles ∧
    (s.countHolds a b).activeProfile = s.activeProfile ∧ (s.countHolds a b).sources = s.sources ∧
    (s.countHolds a b).epoch = s.epoch ∧ (s.countHolds a b).counters = s.counters ∧
    (s.countHolds a b).decoders = s.decoders ∧ (s.countHolds a b).link = s.link ∧ (s.countHolds a b).out = s.out ∧
    (s.countHolds a b).pending = s.pending ∧ (s.countHolds a b).drawn = s.drawn := by
  simp [State.countHolds]

@[simp] theorem State.expireHolds_frame (s : State) (a : Bool) (b : Bool) :
    (s.expireHolds a b).clock = s.clock ∧ (s.expireHolds a b).pins = s.pins ∧ (s.expireHolds a b).slots = s.slots ∧
    (s.expireHolds a b).anchors = s.anchors ∧ (s.expireHolds a b).cadences = s.cadences ∧
    (s.expireHolds a b).ready = s.ready ∧ (s.expireHolds a b).conv = s.conv ∧ (s.expireHolds a b).rings = s.rings ∧
    (s.expireHolds a b).holds = s.holds ∧ (s.expireHolds a b).profiles = s.profiles ∧
    (s.expireHolds a b).activeProfile = s.activeProfile ∧ (s.expireHolds a b).sources = s.sources ∧
    (s.expireHolds a b).decoders = s.decoders ∧ (s.expireHolds a b).link = s.link ∧
    (s.expireHolds a b).pending = s.pending := by
  simp only [State.expireHolds]
  repeat' split
  all_goals simp

@[simp] theorem State.rampTick_frame (s : State) :
    (s.rampTick).clock = s.clock ∧ (s.rampTick).pins = s.pins ∧ (s.rampTick).slots = s.slots ∧
    (s.rampTick).anchors = s.anchors ∧ (s.rampTick).cadences = s.cadences ∧ (s.rampTick).ready = s.ready ∧
    (s.rampTick).conv = s.conv ∧ (s.rampTick).rings = s.rings ∧ (s.rampTick).profiles = s.profiles ∧
    (s.rampTick).activeProfile = s.activeProfile ∧ (s.rampTick).sources = s.sources ∧
    (s.rampTick).decoders = s.decoders ∧ (s.rampTick).link = s.link ∧ (s.rampTick).pending = s.pending := by
  simp [State.rampTick, allChans]

@[simp] theorem State.holdRunsOut_frame (s : State) (g : HoldGroup) :
    (s.holdRunsOut g).clock = s.clock ∧ (s.holdRunsOut g).pins = s.pins ∧ (s.holdRunsOut g).slots = s.slots ∧
    (s.holdRunsOut g).anchors = s.anchors ∧ (s.holdRunsOut g).cadences = s.cadences ∧
    (s.holdRunsOut g).ready = s.ready ∧ (s.holdRunsOut g).conv = s.conv ∧ (s.holdRunsOut g).rings = s.rings ∧
    (s.holdRunsOut g).profiles = s.profiles ∧ (s.holdRunsOut g).activeProfile = s.activeProfile ∧
    (s.holdRunsOut g).sources = s.sources ∧ (s.holdRunsOut g).decoders = s.decoders ∧
    (s.holdRunsOut g).link = s.link ∧ (s.holdRunsOut g).pending = s.pending ∧ (s.holdRunsOut g).drawn = s.drawn := by
  unfold State.holdRunsOut
  split <;> simp

@[simp] theorem State.boundary_frame (s : State) (c : ChanId) :
    (s.boundary c).clock = s.clock ∧ (s.boundary c).pins = s.pins ∧ (s.boundary c).slots = s.slots ∧
    (s.boundary c).anchors = s.anchors ∧ (s.boundary c).cadences = s.cadences ∧ (s.boundary c).ready = s.ready ∧
    (s.boundary c).conv = s.conv ∧ (s.boundary c).rings = s.rings ∧ (s.boundary c).holds = s.holds ∧
    (s.boundary c).profiles = s.profiles ∧ (s.boundary c).activeProfile = s.activeProfile ∧
    (s.boundary c).sources = s.sources ∧ (s.boundary c).epoch = s.epoch ∧ (s.boundary c).decoders = s.decoders ∧
    (s.boundary c).link = s.link ∧ (s.boundary c).out = s.out ∧ (s.boundary c).pending = s.pending ∧
    (s.boundary c).drawn = s.drawn := by
  simp only [State.boundary]
  split <;> simp

@[simp] theorem State.dropFrame_frame (s : State) :
    (s.dropFrame).clock = s.clock ∧ (s.dropFrame).pins = s.pins ∧ (s.dropFrame).slots = s.slots ∧
    (s.dropFrame).anchors = s.anchors ∧ (s.dropFrame).cadences = s.cadences ∧ (s.dropFrame).ready = s.ready ∧
    (s.dropFrame).conv = s.conv ∧ (s.dropFrame).rings = s.rings ∧ (s.dropFrame).chans = s.chans ∧
    (s.dropFrame).holds = s.holds ∧ (s.dropFrame).profiles = s.profiles ∧
    (s.dropFrame).activeProfile = s.activeProfile ∧ (s.dropFrame).sources = s.sources ∧
    (s.dropFrame).epoch = s.epoch ∧ (s.dropFrame).counters = s.counters ∧ (s.dropFrame).decoders = s.decoders ∧
    (s.dropFrame).out = s.out ∧ (s.dropFrame).pending = s.pending ∧ (s.dropFrame).drawn = s.drawn := by
  simp [State.dropFrame]

@[simp] theorem State.breakLink_frame (s : State) :
    (s.breakLink).clock = s.clock ∧ (s.breakLink).pins = s.pins ∧ (s.breakLink).slots = s.slots ∧
    (s.breakLink).anchors = s.anchors ∧ (s.breakLink).cadences = s.cadences ∧ (s.breakLink).ready = s.ready ∧
    (s.breakLink).conv = s.conv ∧ (s.breakLink).rings = s.rings ∧ (s.breakLink).holds = s.holds ∧
    (s.breakLink).profiles = s.profiles ∧ (s.breakLink).activeProfile = s.activeProfile ∧
    (s.breakLink).sources = s.sources ∧ (s.breakLink).decoders = s.decoders ∧ (s.breakLink).pending = s.pending ∧
    (s.breakLink).drawn = s.drawn := by
  simp [State.breakLink]

@[simp] theorem State.rxdLow20_frame (s : State) :
    (s.rxdLow20).clock = s.clock ∧ (s.rxdLow20).slots = s.slots ∧ (s.rxdLow20).anchors = s.anchors ∧
    (s.rxdLow20).cadences = s.cadences ∧ (s.rxdLow20).ready = s.ready ∧ (s.rxdLow20).conv = s.conv ∧
    (s.rxdLow20).rings = s.rings ∧ (s.rxdLow20).holds = s.holds ∧ (s.rxdLow20).profiles = s.profiles ∧
    (s.rxdLow20).activeProfile = s.activeProfile ∧ (s.rxdLow20).sources = s.sources ∧
    (s.rxdLow20).decoders = s.decoders ∧ (s.rxdLow20).pending = s.pending ∧ (s.rxdLow20).drawn = s.drawn := by
  unfold State.rxdLow20
  split <;> simp

@[simp] theorem State.gapTimeout_frame (s : State) :
    (s.gapTimeout).clock = s.clock ∧ (s.gapTimeout).pins = s.pins ∧ (s.gapTimeout).slots = s.slots ∧
    (s.gapTimeout).anchors = s.anchors ∧ (s.gapTimeout).cadences = s.cadences ∧ (s.gapTimeout).ready = s.ready ∧
    (s.gapTimeout).conv = s.conv ∧ (s.gapTimeout).rings = s.rings ∧ (s.gapTimeout).chans = s.chans ∧
    (s.gapTimeout).holds = s.holds ∧ (s.gapTimeout).profiles = s.profiles ∧
    (s.gapTimeout).activeProfile = s.activeProfile ∧ (s.gapTimeout).sources = s.sources ∧
    (s.gapTimeout).epoch = s.epoch ∧ (s.gapTimeout).counters = s.counters ∧ (s.gapTimeout).decoders = s.decoders ∧
    (s.gapTimeout).out = s.out ∧ (s.gapTimeout).pending = s.pending ∧ (s.gapTimeout).drawn = s.drawn := by
  unfold State.gapTimeout
  split <;> simp

end Sys2Proof.Machine
end

