-- ==== Sys2Proof/Laws/Link.lean ====
section
/-! SUPPORT. The link controller: when a request is taken as it arrives, what taking leaves as it was, and what the
transmitter's choice and the two joins do (R158 to R163). -/

namespace Sys2Proof.Machine

/-! ## The transmitter -/

/-- A busy transmitter does not choose. -/
theorem Outbox.choose_busy {o : Outbox} {f : TxFrame} (h : o.sending = some f) : o.choose = o := by
  simp [Outbox.choose, h]

/-- A reply that joins while a frame is sent waits as the newest. -/
theorem Outbox.pushReply_busy {o : Outbox} {f : TxFrame} (h : o.sending = some f) (r : Reply) :
    o.pushReply r = { o with replies := o.replies ++ [r] } := by
  simp [Outbox.pushReply, Outbox.choose, h]

/-- An event that joins while a frame is sent is placed in the queue. -/
theorem Outbox.offer_busy {o : Outbox} {f : TxFrame} (h : o.sending = some f) (e : EventRecord) :
    o.offer e = { o with events := placeEvent o.events e } := by
  simp [Outbox.offer, Outbox.choose, h]

/-- A reply that joins an idle transmitter with empty queues is sent at once. -/
theorem Outbox.pushReply_idle {o : Outbox} (h : o.sending = none) (hr : o.replies = []) (he : o.events = [])
    (r : Reply) : o.pushReply r = { o with sending := some (.reply r), sentTicks := 0, lastServed := .reply } := by
  cases o
  simp_all [Outbox.pushReply, Outbox.choose, Outbox.sendReply]

/-- The choice takes entries out of the queues and adds none. -/
theorem Outbox.choose_replies_length (o : Outbox) : o.choose.replies.length ≤ o.replies.length := by
  unfold Outbox.choose
  repeat' split
  all_goals simp_all [Outbox.sendReply, Outbox.sendEvent]

/-- The choice takes entries out of the queues and adds none. -/
theorem Outbox.choose_events_sublist (o : Outbox) : o.choose.events.Sublist o.events := by
  unfold Outbox.choose
  repeat' split
  all_goals simp_all [Outbox.sendReply, Outbox.sendEvent]

/-! ## Arrival -/

/-- A live part does the work. -/
theorem State.live_of_nrst {s : State} (h : s.pins.nrst = true) (work : State → State) :
    s.live work = .next (work s) := by
  simp [State.live, h]

/-- A part held in reset does nothing. -/
theorem State.live_of_reset {s : State} (h : s.pins.nrst = false) (work : State → State) : s.live work = .next s := by
  simp [State.live, h]

/-- A line that stands high is heard. -/
theorem State.hear_of_high {s : State} (h : s.pins.rxd = true) (work : State → State) : s.hear work = work s.seeHigh := by
  simp [State.hear, h]

/-- A line that is held low brings nothing (R164, R179). -/
theorem State.hear_of_low {s : State} (h : s.pins.rxd = false) (work : State → State) : s.hear work = s := by
  simp [State.hear, h]

/-- A request row is the arrival of its frame. -/
theorem exec_row {s : State} (h : s.pins.nrst = true) (k : RequestKind) (tag : Byte) (p : List Byte) :
    exec (k.row tag p) s = .next (s.arrive { tag, kind := k.code, payload := p }) := by
  have e : exec (k.row tag p) s = s.live (fun s => s.arrive { tag, kind := k.code, payload := p }) := by
    cases k <;> rfl
  rw [e, State.live_of_nrst h]

/-- A good request that finds the queue empty and the conditions met is taken at once (R158). -/
theorem State.arrive_takesAtOnce {s : State} (h : s.takesAtOnce) {r : Request} (ht : r.tag ≠ 0)
    (hp : r.payload.length ≤ 248) : s.arrive r = s.seeHigh.take r := by
  obtain ⟨-, hx, hq, hr, hw⟩ := h
  have h1 : s.seeHigh.link.requests = [] := hq
  have h2 : ((s.seeHigh.setRequests [r]).mayTake) = true := by
    simp [State.mayTake, State.seeHigh, State.setRequests, hr, hw]
  have h3 : ¬ (r.tag = 0 ∨ 248 < r.payload.length ∨ 4 ≤ s.seeHigh.link.requests.length) := by
    rw [h1]
    rintro (h | h | h)
    · exact ht h
    · omega
    · simp at h
  unfold State.arrive State.enqueue State.join
  rw [State.hear_of_high hx, if_neg h3, h1]
  have h4 : (s.seeHigh.setRequests [r]).setRequests [] = s.seeHigh := by
    simp [State.setRequests, State.seeHigh, hq.symm]
  show State.takeChain 1 (s.seeHigh.setRequests [r]) = _
  have h5 : (s.seeHigh.setRequests [r]).link.requests = [r] := rfl
  simp only [State.takeChain, h5, h2, if_true, h4]

/-- A request row that is taken at once. -/
theorem exec_row_taken {s : State} (h : s.takesAtOnce) (k : RequestKind) {tag : Byte} (ht : tag ≠ 0) {p : List Byte}
    (hp : p.length ≤ 248) : exec (k.row tag p) s = .next (s.seeHigh.take { tag, kind := k.code, payload := p }) := by
  rw [exec_row h.1, State.arrive_takesAtOnce h ht hp]

/-- The kind byte of a request kind names it. -/
@[simp] theorem RequestKind.ofCode_code (k : RequestKind) : RequestKind.ofCode k.code = some k := by
  cases k <;> rfl

/-- The answer to a payload of the right length is the owning block's. -/
theorem Request.answer_of_length {k : RequestKind} {p : List Byte} (h : p.length = k.payloadLength) (tag : Byte)
    (s : State) : Request.answer { tag, kind := k.code, payload := p } s = k.take p s := by
  simp [Request.answer, h]

/-- A request row of the right length, taken at once: the block's effect, then the reply. -/
theorem exec_row_answered {s : State} (h : s.takesAtOnce) (k : RequestKind) {tag : Byte} (ht : tag ≠ 0)
    {p : List Byte} (hp : p.length = k.payloadLength) :
    exec (k.row tag p) s = .next ((k.take p s.seeHigh).state.pushReply
      { tag := tag, kind := k.code + 0x80,
        payload := (k.take p s.seeHigh).result.code :: (k.take p s.seeHigh).state.epoch ::
          (k.take p s.seeHigh).fields }) := by
  have h248 : p.length ≤ 248 := by rw [hp]; cases k <;> decide
  rw [exec_row_taken h k ht h248]
  simp only [State.take, Request.replyTo, Request.answer_of_length hp]

/-! ## What taking leaves as it was -/

/-- No request touches the timebase, the pins, the request queue or the model's own fields. -/
@[simp] theorem RequestKind.take_frame (k : RequestKind) (p : List Byte) (s : State) :
    (k.take p s).state.clock = s.clock ∧ (k.take p s).state.pins = s.pins ∧
    (k.take p s).state.link.requests = s.link.requests ∧ (k.take p s).state.link.mode = s.link.mode ∧
    (k.take p s).state.link.seenHigh = s.link.seenHigh ∧ (k.take p s).state.pending = s.pending ∧
    (k.take p s).state.drawn = s.drawn := by
  cases k <;>
    simp only [RequestKind.take, takePing, takeStatus, takeRestart, takeSetChannel, takeDrive, takeStopAll,
      takeSetProfile, takeSelectProfile, takeSnapshot, takeDefineAcq, takeArmAcq, takeCancelAcq, takeReleaseAcq,
      takeSetAnchor, takeSetRing, takeReadRing, takeSetGuard, takeClearTrip, takeSetCounter, takeReadCounters,
      State.refuse, State.awaitRestart, State.clearReportedFlags]
  all_goals (repeat' split)
  all_goals simp

/-- The answer to any request leaves them as well. -/
@[simp] theorem Request.answer_frame (r : Request) (s : State) :
    (r.answer s).state.clock = s.clock ∧ (r.answer s).state.pins = s.pins ∧
    (r.answer s).state.link.requests = s.link.requests ∧ (r.answer s).state.link.mode = s.link.mode ∧
    (r.answer s).state.link.seenHigh = s.link.seenHigh ∧ (r.answer s).state.pending = s.pending ∧
    (r.answer s).state.drawn = s.drawn := by
  unfold Request.answer
  repeat' split
  all_goals simp [State.refuse]

/-- Taking leaves them as well. -/
@[simp] theorem State.take_frame (s : State) (r : Request) :
    (s.take r).clock = s.clock ∧ (s.take r).pins = s.pins ∧ (s.take r).link.requests = s.link.requests ∧
    (s.take r).link.mode = s.link.mode ∧ (s.take r).link.seenHigh = s.link.seenHigh ∧
    (s.take r).pending = s.pending ∧ (s.take r).drawn = s.drawn := by
  simp [State.take]

/-- A transmitter that comes free changes the outgoing side alone (R163). -/
theorem State.freeTransmitter_frame (s : State) : s.freeTransmitter = { s with out := s.freeTransmitter.out } := rfl

/-- Taking every request that can be taken leaves the timebase, the pins and the model's own fields. -/
@[simp] theorem State.takeChain_frame (n : Nat) (s : State) :
    (State.takeChain n s).clock = s.clock ∧ (State.takeChain n s).pins = s.pins ∧
    (State.takeChain n s).link.mode = s.link.mode ∧ (State.takeChain n s).link.seenHigh = s.link.seenHigh ∧
    (State.takeChain n s).pending = s.pending ∧ (State.takeChain n s).drawn = s.drawn := by
  induction n generalizing s with
  | zero => simp [State.takeChain]
  | succ n ih =>
    unfold State.takeChain
    repeat' split
    · simp
    · simp [ih, State.setRequests]
    · simp

end Sys2Proof.Machine
end

