-- ==== Sys2Proof/Laws/Timebase.lean ====
section
/-! SUPPORT. What a tick puts on the queue: the commands that fall due, each once, in some order. -/

namespace Sys2Proof.Machine

@[simp] theorem mem_dueIf (i c : Instr) (due : Bool) : i ∈ dueIf due c ↔ due = true ∧ i = c := by
  unfold dueIf
  cases due <;> simp

theorem insertAt_perm (n : Nat) (c : Instr) (l : List Instr) : (insertAt n c l).Perm (c :: l) := by
  induction l generalizing n with
  | nil => cases n <;> exact List.Perm.refl _
  | cons d l ih =>
    cases n with
    | zero => exact List.Perm.refl _
    | succ n => exact (List.Perm.cons d (ih n)).trans (List.Perm.swap c d l)

/-- The free order of the commands of one moment is an order of those commands (log 4). -/
theorem freeOrder_perm (drawn : Nat) (l : List Instr) : (freeOrder drawn l).Perm l := by
  induction l with
  | nil => exact List.Perm.refl _
  | cons c l ih =>
    cases l with
    | nil => exact List.Perm.refl _
    | cons d l => exact (insertAt_perm _ c _).trans (List.Perm.cons c ih)

/-- A tick of a part that is not held in reset puts the commands that fall due on the queue, in a free order. -/
theorem State.tick_pending (s : State) (h : s.pins.nrst = true) :
    s.tick.pending =
      s.pending ++ freeOrder s.drawn (s.advanceTime.dueNow s.clock.microTick s.clock.rampTick) := by
  simp [State.tick, h, State.putDue, State.advanceTime]

end Sys2Proof.Machine
end

