-- ==== Sys2Proof/Tests/Slice0.lean ====
section
/-! SUPPORT. Tests of the model: ill-formed operands, what each command does on a small state, and a witness for the
hypotheses of each obligation. -/

namespace Sys2Proof.Tests

open Sys2Proof.Machine

-- One test after another: together they would wait for the kernel on more threads than the memory limit has room for.
set_option Elab.async false

/-! ## Helpers -/

/-- The state a command answers. -/
def ran (c : Instr) (s : State) : State :=
  match exec c s with
  | .next t => t
  | _ => s

/-- A SET-CHANNEL payload with the default values in every field that is not given. -/
def setChannelPayload (c : Nat) (selection : Nat) (enable period : Nat) : List Byte :=
  out8 c ++ out16 selection ++ out8 enable ++ out16 period ++ out16 0 ++ out16 1000 ++ out16 20 ++ out16 0 ++ out8 16 ++
    out16 10 ++ out8 0 ++ out16 1 ++ out16 250

/-- A DRIVE payload that names channels, with one target for all. -/
def drivePayload (mask epoch : Nat) (target : Int) : List Byte :=
  out8 mask ++ out8 epoch ++ outS16 target ++ outS16 target ++ outS16 target ++ outS16 target

/-- A DEFINE-ACQ payload: one element on channel 4, ring 0, no feedback and no window. -/
def definePayload (x anchor flags : Nat) : List Byte :=
  out8 x ++ out8 2 ++ out8 anchor ++ out8 flags ++ out16 0 ++ out16 0 ++ out8 0 ++ out8 255 ++ out8 0 ++ out8 0 ++
    out16 0 ++ out16 0 ++ out8 1 ++ out8 4 ++ List.replicate 7 0

/-- A SET-GUARD payload. -/
def guardPayload (n flags qualification action cap mask : Nat) : List Byte :=
  out8 n ++ out8 flags ++ out8 qualification ++ out8 action ++ out16 cap ++ out8 mask

/-- A SET-COUNTER payload. -/
def counterPayload (u selection position limit quiet grace : Nat) : List Byte :=
  out8 u ++ out8 selection ++ out32 position ++ out16 limit ++ out16 quiet ++ out16 grace

/-- A SET-ANCHOR payload. -/
def anchorPayload (a selection mode insert divider period : Nat) : List Byte :=
  out8 a ++ out8 selection ++ out8 mode ++ out8 insert ++ out16 divider ++ out32 period

/-- The definition of the test slots: level 2, one element on channel 4, ring 0. -/
def plainDefinition : Definition := { Definition.absent with level := 2, elements := [4], ring := some 0 }

/-- A slot in a state with a definition. -/
def slotIn (d : Definition) (st : SlotState) : Slot := { Slot.free with defn := d, state := st }

/-- A state whose slot 1 holds a definition in a state. -/
def withSlot (d : Definition) (st : SlotState) : State := State.reset.setSlot 1 (slotIn d st)

/-- A state whose channel 0 stands in a state with the default configuration. -/
def withChan (st : ChanState) : State := State.reset.setChan 0 { Channel.initial with state := st }

/-- PC0 drives forward at 400. -/
def driving : State :=
  State.reset.setChan 0 { Channel.initial with
    state := .run, target := 400, ramped := 400, mag := 400, nextOn := 400, activeOn := 400, pulsed := true }

/-- PC0 waits in DWELL at R = -400 with direction FWD. -/
def dwelling (pulsed : Bool) : State :=
  State.reset.setChan 0 { Channel.initial with
    state := .dwell, target := -400, ramped := -400, mag := 400, nextOn := 400, pulsed := pulsed }

/-- Source 0 is enabled with action COAST on PC0, with a qualification and in a state. -/
def guardedBy (qualification : Nat) (st : SourceState) : State :=
  State.reset.setSource 0 { Source.initial with
    enabled := true, qualification := qualification, action := .coast, mask := 1, state := st }

/-- CU0 with a tally limit of 2. -/
def tallying (tally : Nat) : State := State.reset.setCounter 0 { Counter.initial with tally := tally, tallyLimit := 2 }

/-- The converter converts for slot 1. -/
def converting (d : Definition) : State :=
  { withSlot d .converting with conv := some { slot := 1, channel := 4, start := 0, elapsed := 0 } }

/-- The state at a time stamp. -/
def atTime (s : State) (t : Stamp) : State := { s with clock := { s.clock with stamp := t } }

/-- A transmitter that sends a frame. -/
def sendingFrame (f : TxFrame) : State := { State.reset with out := { State.reset.out with sending := some f } }

/-- A record of the event queue. -/
def tallyRecord (source : Nat) : EventRecord :=
  { kind := .tally, source := source, count := 1, overflow := false, epoch := 0, stamp := 0, detail := 0 }

/-- Slot 1, level 2, converts its first of two elements, and slot 7, level 1, is READY. -/
def preempted : State :=
  (((converting { plainDefinition with elements := [4, 5] }).setLevel 1 [7]).setSlot 7
    (slotIn { plainDefinition with level := 1 } .ready))

/-- Slot 1 has yielded to slot 7, and the next command cancels slot 7 at that moment. -/
def yieldedBeforeCancel : State := ran (.conversionComplete 9) { preempted with pending := [.cancelAcq 1 [7]] }

/-- Slot 1 waits on KA0, whose due time is reached, and the next command cancels slot 1 at that moment. -/
def firedBeforeCancel : State :=
  ran (.cadenceAnchorFire 0) { ((withSlot { plainDefinition with anchor := some 4 } .waiting).setAnchor 4
    { Anchor.initial with waitList := [1] }).setCadence 0 { period := 100, due := 0 } with
      pending := [.cancelAcq 1 [1]] }

/-- RXD has been low since before the reset. -/
def lowLine : State := State.reset.setRxd false

/-- A link break stands at the front of the queue. -/
def beforeBreak : State := { State.reset with pending := [.linkBreak] }

/-- PC0 and PC2 move, and both hold timers stand at 1. -/
def bothExpiring : State :=
  ((driving.setChan 2 { Channel.initial with state := .run, target := 100 }).setHold 0 { time := 250, left := 1 }).setHold
    1 { time := 500, left := 1 }

/-! ## Well-formed and ill-formed commands -/

theorem test_wf_ping : (Instr.ping 1 []).wf = true := by decide
theorem test_illFormed_tag0 : (Instr.ping 0 []).wf = false := by decide
theorem test_illFormed_longPayload : (Instr.drive 1 (List.replicate 249 0)).wf = false := by decide +kernel
theorem test_illFormed_knownKind : (Instr.unknownKind 1 0x10 []).wf = false := by decide
theorem test_wf_unknownKind : (Instr.unknownKind 1 0x90 []).wf = true := by decide
theorem test_illFormed_emptyFrame : (Instr.frameReceived []).wf = false := by decide
theorem test_illFormed_shortLength : (Instr.frameReceived [1, 1, 0]).wf = false := by decide
theorem test_illFormed_longLength : (Instr.frameReceived (251 :: List.replicate 252 0)).wf = false := by decide
theorem test_illFormed_frameCount : (Instr.frameReceived [2, 1, 1]).wf = false := by decide
theorem test_wf_frame : (Instr.frameReceived [2, 1, 1, 0xFC]).wf = true := by decide
theorem test_illFormed_tachDown : (Instr.tallyWrap 2 false).wf = false := by decide
theorem test_illFormed_requests : ([.status 0 [], .restart 0 [], .setChannel 0 [], .drive 0 [], .stopAll 0 [],
    .setProfile 0 [], .selectProfile 0 [], .snapshot 0 [], .defineAcq 0 [], .armAcq 0 [], .cancelAcq 0 [],
    .releaseAcq 0 [], .setAnchor 0 [], .setRing 0 [], .readRing 0 [], .setGuard 0 [], .clearTrip 0 [],
    .setCounter 0 [], .readCounters 0 []] : List Instr).all (fun c => c.wf) = false := by decide

/-! ## The table gives no bits -/

theorem test_decode_none : decodeTableWord 32 0x10 = none := by rfl
theorem test_withFetchWord : (State.reset.withFetchWord 8 1).pending = [] := by decide

/-! ## What each command does -/

theorem test_ping : (ran (.ping 1 []) State.reset).out.replies =
    [{ tag := 1, kind := 0x81, payload := [0, 0, 0x2E, 1, 0, 0, 0, 0] }] := by decide
theorem test_status_length : (ran (.status 1 []) State.reset).out.replies.map (fun r => r.payload.length) = [34] := by
  decide
theorem test_restart : (ran (.restart 1 []) State.reset).link.restartWait = true := by decide
theorem test_setChannel : ((ran (.setChannel 1 (setChannelPayload 0 3 1 800)) State.reset).chan 0).state = .idle ∧
    ((ran (.setChannel 1 (setChannelPayload 0 3 1 800)) State.reset).chan 0).period = 800 := by decide
theorem test_drive : ((ran (.drive 1 (drivePayload 1 0 (-5000))) (withChan .idle)).chan 0).target = -1000 := by decide
theorem test_drive_stale : (ran (.drive 1 (drivePayload 1 7 100)) (withChan .idle)).out.replies.map
    (fun r => r.payload) = [[6, 0, 1, 0, 0, 0]] := by decide
theorem test_stopAll : (ran (.stopAll 1 [1]) driving).epoch = 1 ∧ ((ran (.stopAll 1 [1]) driving).chan 0).mag = 0 ∧
    ((ran (.stopAll 1 [1]) driving).chan 0).activeOn = 400 := by decide
theorem test_setProfile :
    ((ran (.setProfile 1 ([0, 0] ++ out16 300 ++ out16 0 ++ out16 0)) driving).chan 0).mag = 300 := by decide
theorem test_selectProfile : (ran (.selectProfile 1 [3]) State.reset).activeProfile = 3 := by decide
theorem test_snapshot : (ran (.snapshot 1 [0]) State.reset).out.replies.map (fun r => r.payload) =
    [[0, 0, 0, 0, 0xC0, 0, 0xE8, 3, 20, 0]] := by decide
theorem test_defineAcq : ((ran (.defineAcq 1 (definePayload 1 255 0)) State.reset).slot 1) =
    slotIn plainDefinition .idle := by decide
theorem test_armAcq : ((ran (.armAcq 1 [1]) (withSlot plainDefinition .idle)).slot 1).state = .converting ∧
    (ran (.armAcq 1 [1]) (withSlot plainDefinition .idle)).out.replies.map (fun r => r.payload) = [[0, 0, 1, 3]] := by
  decide
theorem test_cancelAcq : ((ran (.cancelAcq 1 [1]) (converting plainDefinition)).slot 1).cancel = true := by decide
theorem test_releaseAcq : (ran (.releaseAcq 1 [1]) (withSlot plainDefinition .idle)).slot 1 = Slot.free := by decide
theorem test_setAnchor : ((ran (.setAnchor 1 (anchorPayload 4 9 0 0 0 1000)) State.reset).cadences.get 0).due = 1000 ∧
    ((ran (.setAnchor 1 (anchorPayload 4 9 0 0 0 1000)) State.reset).anchor 4).mode = .one := by decide
theorem test_setRing : ((ran (.setRing 1 [7, 1, 32]) State.reset).ring 7).watermark = 32 := by decide
theorem test_readRing : (ran (.readRing 1 [0, 10]) State.reset).out.replies.map (fun r => r.payload) =
    [[0, 0, 0, 0, 0, 0]] := by decide
theorem test_setGuard : ((ran (.setGuard 1 (guardPayload 11 1 99 2 1000 15)) State.reset).source 11).qualification = 0 ∧
    ((ran (.setGuard 1 (guardPayload 11 1 99 2 1000 15)) State.reset).source 11).enabled = true := by decide
theorem test_clearTrip : ((ran (.clearTrip 1 [0]) (guardedBy 2 .latched)).source 0).state = .inactive := by decide
theorem test_setCounter :
    ((ran (.setCounter 1 (counterPayload 0 2 0 1 0 0)) (tallying 1)).counter 0).tally = 0 := by decide
theorem test_readCounters : (ran (.readCounters 1 []) (tallying 1)).out.replies.map (fun r => r.payload.take 9) =
    [[0, 0, 0, 0, 0, 0, 1, 0, 0]] := by decide
theorem test_unknownKind : (ran (.unknownKind 1 0x90 []) State.reset).out.replies =
    [{ tag := 1, kind := 0x10, payload := [2, 0] }] := by decide
theorem test_frameReceived : (ran (.frameReceived [2, 1, 1, 0xFC]) State.reset).out.replies =
    (ran (.ping 1 []) State.reset).out.replies := by decide
theorem test_frameReceived_checksum : (ran (.frameReceived [2, 1, 1, 0xFD]) State.reset).link.linkError = true := by
  decide
theorem test_gap : (ran .interByteGapTimeout (State.reset.setReceiver (.frame [2]))).link.mode = .hunt := by decide
theorem test_framingError : (ran .framingError State.reset).link.linkError = true := by decide
theorem test_linkBreak : (ran .linkBreak driving.seeHigh).epoch = 1 ∧
    ((ran .linkBreak driving.seeHigh).chan 0).target = 0 := by decide
theorem test_linkBreak_beforeHigh : (ran .linkBreak driving).epoch = 0 := by decide
theorem test_frameTransmitted : (ran .frameTransmitted (sendingFrame (.event (tallyRecord 0)))).out.sending =
    some (.event (EventRecord.readyRecord .power)) := by decide
theorem test_restartReset : (ran .restartReset { sendingFrame (.reply ⟨1, 0x83, [0, 0]⟩) with
    link := { State.reset.link with restartWait := true } }).out.events = [EventRecord.readyRecord .restart] := by
  decide
theorem test_powerOn : ran .powerOn driving = State.reset := by decide +kernel
theorem test_nrstAssert : (ran .nrstAssert driving).out.events = [EventRecord.readyRecord .pin] := by decide
theorem test_nrstRelease : (ran .nrstRelease (ran .nrstAssert driving)).pins.nrst = true := by decide
theorem test_rampTick : ((ran .rampTick (driving.setChan 0 { driving.chan 0 with target := -400 })).chan 0).ramped =
    380 := by decide
theorem test_holdExpiry :
    ((ran (.holdExpiry .motion) (driving.setHold 0 { time := 250, left := 1 })).chan 0).target = 0 ∧
    (ran (.holdExpiry .motion) (driving.setHold 0 { time := 250, left := 1 })).epoch = 1 := by decide
theorem test_periodBoundary : ((ran (.periodBoundary 0) (dwelling false)).chan 0).direction = .rev ∧
    ((ran (.periodBoundary 0) (dwelling false)).chan 0).activeOn = 400 := by decide
theorem test_periodBoundary_stays : ((ran (.periodBoundary 0) (dwelling true)).chan 0).state = .dwell := by decide
theorem test_periodMidpoint : ((ran (.periodMidpoint 0) (driving.setChan 0
    { driving.chan 0 with divider := 2 })).chan 0).centreCount = 1 := by decide
theorem test_centreAnchorFire : ((ran (.centreAnchorFire 0) (driving.setAnchor 0
    { Anchor.initial with mode := .one })).anchor 0).bank = 1 := by decide
theorem test_cadenceAnchorFire : ((ran (.cadenceAnchorFire 1) (atTime (State.reset.setCadence 1
    { period := 100, due := 100 }) 100)).cadences.get 1).due = 200 := by decide
theorem test_conversionComplete : ((ran (.conversionComplete 77) (converting plainDefinition)).ring 0).entries =
    [{ slot := 1, status := .complete, number := 0, roundTime := 0, values := [77] }] := by decide
theorem test_yield : (ran (.conversionComplete 9) preempted).conv.map (fun v => v.slot) = some 7 := by decide +kernel
theorem test_yield_cancelled : yieldedBeforeCancel.conv = none ∧
    (ran (.cancelAcq 1 [7]) yieldedBeforeCancel).conv =
      some { slot := 1, channel := 5, start := 0, elapsed := 0 } := by decide +kernel
/-- A firing, then a CANCEL-ACQ of the released slot (R41). -/
theorem test_fire_cancelled : (firedBeforeCancel.slot 1).state = .ready ∧ firedBeforeCancel.conv = none ∧
    ((ran (.cancelAcq 1 [1]) firedBeforeCancel).slot 1).state = .idle ∧
    (ran (.cancelAcq 1 [1]) firedBeforeCancel).conv = none := by decide +kernel
/-- A frame's checksum byte and a link break, in both orders (R169). -/
theorem test_frameThenBreak : (ran (.frameReceived [2, 1, 1, 0xFC]) beforeBreak).link.requests = [{ tag := 1, kind := 1, payload := [] }] ∧
    (ran .linkBreak (ran (.frameReceived [2, 1, 1, 0xFC]) beforeBreak)).link.requests = [] ∧
    (ran .linkBreak (ran (.frameReceived [2, 1, 1, 0xFC]) beforeBreak)).out.replies = [] := by decide +kernel
theorem test_breakThenFrame : ran (.frameReceived [2, 1, 1, 0xFC]) (ran .linkBreak State.reset.seeHigh) =
    ran .linkBreak State.reset.seeHigh := by decide +kernel
theorem test_waitLimitExpiry : ((ran (.waitLimitExpiry 1) (atTime (withSlot
    { plainDefinition with waitLimit := 10 } .ready) 10)).slot 1).late = true := by decide
theorem test_guardPinAssert : ((ran (.guardPinAssert 0) (guardedBy 2 .inactive)).source 0).state = .qualifying := by
  decide
theorem test_guardPinDeassert : ((ran (.guardPinDeassert 0) (guardedBy 2 .tripped)).source 0).state = .latched := by
  decide
/-- PC0 at R = 400 with F = 50 stands under a COAST source: it is halted with its sticky flags as they were (R94). -/
theorem test_haltKeepsFlags :
    let s := driving.setSource 0 ((guardedBy 2 .tripped).source 0)
    (s.setChan 0 { s.chan 0 with fold := 50 }).applyMask 1 = (s.setChan 0 { Channel.initial with
      state := .halt, fold := 50, pulsed := true }) := by decide +kernel
theorem test_qualificationExpiry : ((ran (.qualificationExpiry 0) (atTime ((guardedBy 2 .qualifying).setGin 0 false)
    2000)).source 0).state = .tripped := by decide
theorem test_quadratureStep : ((ran (.quadratureStep 0 true false) State.reset).counter 0).position = 1 ∧
    ((ran (.quadratureStep 0 false true) State.reset).counter 0).position = -1 := by decide
theorem test_quadratureStep_illegal : ((ran (.quadratureStep 0 true true) State.reset).decoder 0).countError = true := by
  decide
theorem test_tachEdge : ((ran .tachEdge State.reset).counter 2).position = 1 := by decide
theorem test_tallyWrap : ((ran (.tallyWrap 0 true) (tallying 1)).counter 0).tally = 0 ∧
    ((ran (.tallyWrap 0 true) (tallying 1)).counter 0).position = 1 := by decide
theorem test_graceExpiry : ((ran (.graceExpiry 0) (atTime driving 200000)).counter 0).armed = true := by decide
theorem test_stall : ((ran (.stall 0) (atTime (driving.setCounter 0
    { Counter.initial with armed := true, quiet := 10 }) 10000)).counter 0).lockout = true := by decide
theorem test_byteReceived : (ran (.byteReceived 0xA5) State.reset).link.mode = .frame [] := by decide
theorem test_rxdReturnsHigh : (ran .rxdReturnsHigh State.reset).link.seenHigh = true := by decide
theorem test_tick : (match step State.reset with
    | .next t => t.clock.subTicks
    | _ => 0) = 1 := by decide

/-! ## Witnesses: the hypotheses of each obligation are met, clause by clause, at the bounds of their ranges -/

/-- A state with one command waiting. -/
def waiting (c : Instr) (s : State) : State := { s with pending := [c] }

/-- The part held in reset. -/
def heldInReset : State := State.reset.setNrst false

/-- The reply of a RESTART is in transmission. -/
def restarting : State :=
  { sendingFrame (.reply ⟨1, 0x83, [0, 0]⟩) with link := { State.reset.link with restartWait := true } }

/-- A reply. -/
def someReply : Reply := { tag := 1, kind := 0x81, payload := [0, 0] }

/-- A request. -/
def someRequest : Request := { tag := 1, kind := 0x01, payload := [] }

/-- The transmitter is idle and both queues are empty. -/
def quietLink : State := { State.reset with out := { State.reset.out with events := [] } }

theorem witness_StepRunsFrontCommand : (waiting .rampTick State.reset).pending = .rampTick :: [] := by decide

theorem witness_IdleStepIsOneTick :
    (State.reset.pending = [] ∧ State.reset.clock.subTicks < 20 ∧ State.reset.clock.rampTicks < 20000 ∧
      State.reset.pins.nrst = true) ∧
    (heldInReset.pending = [] ∧ heldInReset.clock.subTicks < 20 ∧ heldInReset.clock.rampTicks < 20000 ∧
      heldInReset.pins.nrst = false) := by decide

/-- More than 20 µs after a reset, and not before, a line at rest high is seen high. -/
theorem witness_IdleStepIsOneTick_seenHigh :
    let s (sub : Nat) : State := { State.reset with clock := { stamp := 20, subTicks := sub, rampTicks := 400 + sub } }
    ((s 0).pins.rxd = true ∧ (s 0).link.seenHigh = false) ∧
    (s 0).highSinceReset = false ∧ (s 1).highSinceReset = true := by decide

theorem witness_IdleStepIsOneTick_bound :
    let s : State := { State.reset with clock := { stamp := 5, subTicks := 19, rampTicks := 19999 } }
    s.pending = [] ∧ s.clock.subTicks < 20 ∧ s.clock.rampTicks < 20000 ∧ s.pins.nrst = true := by decide

theorem witness_ResetsReturnResetValues :
    State.reset.pins.nrst = true ∧ heldInReset.pins.nrst = false ∧ restarting.pins.nrst = true ∧
    restarting.restartReplyEnds = true ∧ State.reset.restartReplyEnds = false := by decide

theorem witness_AcquisitionLawsKept :
    (State.reset.slotLaw ∧ State.reset.converterLaw ∧ State.reset.cursorLaw) ∧
    (∃ t, step (waiting .rampTick State.reset) = .next t) :=
  ⟨⟨by decide, by decide, by decide⟩, _, rfl⟩

theorem witness_AcquisitionLawsKept_converting :
    (converting plainDefinition).slotLaw ∧ (converting plainDefinition).converterLaw ∧
    (converting plainDefinition).cursorLaw := by
  refine ⟨by decide, by decide, by decide⟩

theorem witness_DispatchLawKept :
    State.reset.dispatchLaw ∧ ∃ t, step (waiting .rampTick State.reset) = .next t := ⟨by decide, _, rfl⟩

theorem witness_DispatchLawKept_yield :
    yieldedBeforeCancel.dispatchLaw ∧ yieldedBeforeCancel.conv = none ∧ yieldedBeforeCancel.cancelNext = true := by
  decide +kernel

theorem witness_LinkLawsKept_break :
    let s := ran (.frameReceived [2, 1, 1, 0xFC]) beforeBreak
    s.linkLaw ∧ s.link.mode = .hunt ∧ s.link.requests ≠ [] ∧ s.mayTake = true ∧ s.breakNext = true := by decide +kernel

theorem witness_BankAndRingLawsKept :
    State.reset.bankLaw ∧ State.reset.ringLaw ∧ ∃ t, step (waiting .rampTick State.reset) = .next t :=
  ⟨by decide, by decide, _, rfl⟩

theorem witness_DriveLawsKept :
    driving.restLaw ∧ driving.dutyLaw ∧ ∃ t, step (waiting .rampTick driving) = .next t :=
  ⟨by decide, by decide, _, rfl⟩

theorem witness_GuardLawsKept :
    (guardedBy 2 .tripped).haltLaw ∧ (guardedBy 2 .tripped).sourceLaw ∧
    ∃ t, step (waiting .rampTick (guardedBy 2 .tripped)) = .next t := ⟨by decide, by decide, _, rfl⟩

theorem witness_CounterLawKept :
    (tallying 1).counterLaw ∧ ∃ t, step (waiting .tachEdge (tallying 1)) = .next t := ⟨by decide, _, rfl⟩

theorem witness_EventLawKept :
    State.reset.eventLaw ∧ ∃ t, step (waiting .tachEdge State.reset) = .next t := ⟨by decide, _, rfl⟩

theorem witness_LinkLawsKept :
    State.reset.linkLaw ∧ State.reset.receiverLaw ∧ ∃ t, step (waiting (.ping 1 []) State.reset) = .next t :=
  ⟨by decide, trivial, _, rfl⟩

theorem witness_DirectionChangesAfterZeroPeriod :
    (ran (.periodBoundary 0) (dwelling false)).chan 0 ≠ (dwelling false).chan 0 ∧
    ((ran (.periodBoundary 0) (dwelling false)).chan 0).direction ≠ ((dwelling false).chan 0).direction ∧
    step (waiting (.periodBoundary 0) (dwelling false)) = .next (ran (.periodBoundary 0) (dwelling false)) :=
  ⟨by decide, by decide, rfl⟩

theorem witness_RepliesAndEventsAreQueued :
    (sendingFrame (.reply someReply)).out.sending.isSome = true ∧
    (quietLink.out.sending = none ∧ quietLink.out.replies = [] ∧ quietLink.out.events = []) ∧
    (∃ w ∈ [tallyRecord 0], (tallyRecord 0).kind ≠ .ready ∧ w.kind = (tallyRecord 0).kind ∧
      w.source = (tallyRecord 0).source) ∧
    (∀ w ∈ (List.range 15).map tallyRecord, ¬ ((tallyRecord 16).kind ≠ .ready ∧ w.kind = (tallyRecord 16).kind ∧
      w.source = (tallyRecord 16).source)) ∧ ((List.range 15).map tallyRecord).length < 16 ∧
    (∀ w ∈ (List.range 16).map tallyRecord, ¬ ((tallyRecord 16).kind ≠ .ready ∧ w.kind = (tallyRecord 16).kind ∧
      w.source = (tallyRecord 16).source)) ∧
    (List.range 16).map tallyRecord = (List.range 15).map tallyRecord ++ [tallyRecord 15] ∧
    16 ≤ ((List.range 16).map tallyRecord).length := by decide +kernel

theorem witness_RepliesAndEventsAreQueued_readyWaits :
    State.reset.out.sending = none ∧ State.reset.out.replies = [] ∧
    State.reset.out.events = EventRecord.readyRecord .power :: [] ∧
    (let both : Outbox := { State.reset.out with replies := [someReply] }
     both.replies = someReply :: [] ∧ both.lastServed = .event ∧
     ({ both with lastServed := .reply }).lastServed = .reply) := by decide

theorem witness_requestsTakenAtOnce : State.reset.takesAtOnce ∧ (1 : Byte) ≠ 0 ∧ (255 : Byte) ≠ 0 := by decide

theorem witness_PingReportsIdentityAndTime : State.reset.takesAtOnce ∧ (1 : Byte) ≠ 0 := by decide
theorem witness_StatusReportsThenClears : State.reset.takesAtOnce ∧ (255 : Byte) ≠ 0 := by decide

theorem witness_LinkControllerAnswers :
    State.reset.takesAtOnce ∧ (1 : Byte) ≠ 0 ∧ (0x00 : Byte) ∉ requestKinds ∧ (0x7E : Byte) ∉ requestKinds ∧
    (0xFF : Byte) ∉ requestKinds ∧ (List.replicate 248 (0 : Byte)).length ≤ 248 ∧
    ([] : List Byte).length ≠ RequestKind.drive.payloadLength ∧
    (List.replicate 1 (0 : Byte)).length ≠ RequestKind.ping.payloadLength ∧
    (let t : State := { State.reset with link := { State.reset.link with restartWait := true, requests := [someRequest] } }
     t.link.restartWait = true ∧ t.link.requests = someRequest :: []) := by decide +kernel

theorem witness_RequestsWaitForRoom :
    (RequestKind.code .ping = 0x01 ∧ Instr.ping 1 [] = RequestKind.row .ping 1 []) ∧ heldInReset.pins.nrst = false ∧
    lowLine.pins.rxd = false ∧ State.reset.pins.nrst = true ∧ State.reset.pins.rxd = true ∧
    (let full : State := { State.reset with link := { State.reset.link with requests := List.replicate 4 someRequest } }
     full.pins.nrst = true ∧ full.pins.rxd = true ∧ 4 ≤ full.link.requests.length) ∧
    (let busy : State := { State.reset with
        link := { State.reset.link with requests := List.replicate 3 someRequest }
        out := { State.reset.out with replies := List.replicate 4 someReply } }
     busy.pins.nrst = true ∧ busy.pins.rxd = true ∧ busy.link.requests.length < 4 ∧ 4 ≤ busy.out.replies.length) ∧
    (restarting.pins.nrst = true ∧ restarting.link.requests.length < 4 ∧ restarting.link.restartWait = true) := by
  decide +kernel

theorem witness_NoSuchUnitIsRefused :
    State.reset.takesAtOnce ∧
    ([1, 22, 25, 10, 3, 2, 7, 12].all (fun n => (List.replicate n (32 : Byte)).length == n)) = true ∧
    32 ≤ u8 [32] 0 ∧ 12 ≤ u8 [12] 0 ∧ 8 ≤ u8 [8, 0, 1] 0 ∧ 4 ≤ u8 [4] 0 ∧ 3 ≤ u8 [3] 0 ∧
    (List.replicate 8 (4 : Byte)).length = 8 ∧ 4 ≤ u8 [0, 4] 1 := by decide +kernel

theorem witness_ReceiverBuildsAndChecksFrames :
    goodFrame [2, 1, 1, 0xFC] = some someRequest ∧ goodFrame [2, 1, 1, 0xFD] = none ∧ goodFrame [1, 1, 0] = none ∧
    RequestKind.code .ping = someRequest.kind ∧ (goodFrame [2, 1, 0x7E, 0x7F]).isSome = true ∧
    (0x7E : Byte) ∉ requestKinds ∧ State.reset.pins.nrst = true ∧ State.reset.link.mode = .hunt ∧
    (State.reset.setReceiver (.frame [])).link.mode = .frame [] ∧
    (2 ≤ (250 : Byte).toNat ∧ (250 : Byte).toNat ≤ 250) ∧ ¬ (2 ≤ (251 : Byte).toNat ∧ (251 : Byte).toNat ≤ 250) ∧
    ¬ (2 ≤ (1 : Byte).toNat ∧ (1 : Byte).toNat ≤ 250) ∧
    (State.reset.setReceiver (.frame [2, 1])).link.mode = .frame (2 :: [1]) ∧ [(1 : Byte)].length < (2 : Byte).toNat ∧
    [(1 : Byte), 1].length = (2 : Byte).toNat ∧ State.reset.pins.rxd = true ∧ lowLine.pins.rxd = false ∧
    (beforeBreak.pending.head? = some .linkBreak ∧ someRequest.tag ≠ 0 ∧ beforeBreak.link.requests.length < 4) ∧
    State.reset.pending.head? ≠ some .linkBreak := by decide +kernel

theorem witness_LinkBreakStopsTheDrive :
    (driving.seeHigh.pins.nrst = true ∧ driving.seeHigh.link.seenHigh = true) ∧
    (driving.pins.nrst = true ∧ driving.link.seenHigh = false) ∧ heldInReset.pins.nrst = false := by decide

theorem witness_TransmitterAlternates :
    let both : State := { sendingFrame (.reply someReply) with
      out := { (sendingFrame (.reply someReply)).out with replies := [someReply] } }
    (both.pins.nrst = true ∧ both.out.sending = some (.reply someReply) ∧ both.restartReplyEnds = false) ∧
    (both.out.replies = someReply :: [] ∧ both.out.lastServed = .event) ∧
    ((sendingFrame (.reply someReply)).out.events = EventRecord.readyRecord .power :: [] ∧
      (sendingFrame (.reply someReply)).out.replies = []) ∧
    State.reset.out.sending = none ∧ State.reset.link.requests = [] ∧
    (State.reset.setRequests [someRequest]).mayTake = true ∧ (restarting.setRequests [someRequest]).mayTake = false := by
  decide +kernel

theorem witness_TransmitterAlternates_eventTurn :
    let both : State := { State.reset with out := { State.reset.out with
      sending := some (.reply someReply), replies := [someReply], lastServed := .reply } }
    both.out.events = EventRecord.readyRecord .power :: [] ∧ both.out.lastServed = .reply ∧
    both.restartReplyEnds = false := by decide

theorem witness_TransmitterAlternates_bothEmpty :
    let last : State := { sendingFrame (.reply someReply) with
      out := { (sendingFrame (.reply someReply)).out with events := [] } }
    last.pins.nrst = true ∧ last.out.sending = some (.reply someReply) ∧ last.restartReplyEnds = false ∧
    last.out.replies = [] ∧ last.out.events = [] := by decide

theorem witness_SentFramesAreGood_lastBit :
    let f : TxFrame := .event (tallyRecord 0)
    let s : State := { sendingFrame f with out := { (sendingFrame f).out with sentTicks := 16 * 200 - 1 } }
    State.reset.out.sending = none ∧ s.out.sending = some f ∧ (lineFrame f.body)[15]?.isSome = true ∧ 9 < 10 ∧
    s.out.sentTicks / 20 = 10 * 15 + 9 ∧ s.txdLevel = true ∧
    (sendingFrame f).txdLevel = false := by decide +kernel

theorem witness_SentFramesAreGood : (List.replicate 248 (0 : Byte)).length ≤ 248 := by decide +kernel

theorem witness_SetChannelPayloadIsChecked :
    (ChannelWrite.ofPayload (setChannelPayload 0 2047 1 4000)).isSome = true ∧
    (ChannelWrite.ofPayload (setChannelPayload 0 2047 0 500)).isSome = true ∧
    ChannelWrite.ofPayload (setChannelPayload 0 2 0 499) = none ∧
    ChannelWrite.ofPayload (setChannelPayload 0 2 0 4001) = none ∧
    ChannelWrite.ofPayload (setChannelPayload 0 1 2 1000) = none ∧
    ChannelWrite.ofPayload (setChannelPayload 0 2048 0 1000) = none ∧
    (setChannelPayload 3 1 2 1000).length = 22 ∧ u8 (setChannelPayload 3 1 2 1000) 0 < 4 := by decide +kernel

theorem witness_SetChannelWritesFields :
    State.reset.takesAtOnce ∧ (setChannelPayload 3 0x7FE 0 500).length = 22 ∧
    u8 (setChannelPayload 3 0x7FE 0 500) 0 = (3 : ChanId).val ∧
    ((ChannelWrite.ofPayload (setChannelPayload 3 0x7FE 0 500)).map (fun w => w.enable)) = some none ∧
    ((ChannelWrite.ofPayload (setChannelPayload 0 3 1 500)).map (fun w => w.enable)) =
      some (some (decide (((withChan .idle).chan 0).state ≠ .off))) ∧ (withChan .idle).takesAtOnce := by decide +kernel

theorem witness_SetChannelSwitchesEnable :
    State.reset.takesAtOnce ∧ ((State.reset.chan 0).state = .off ∧ (State.reset.chan 0).atZero ∧
      (State.reset.chan 0).fold = 0) ∧
    ((ChannelWrite.ofPayload (setChannelPayload 0 3 1 800)).map (fun w => w.enable)) = some (some true) ∧
    driving.takesAtOnce ∧ (driving.chan 0).state ≠ .off ∧
    ((ChannelWrite.ofPayload (setChannelPayload 0 1 0 800)).map (fun w => w.enable)) = some (some false) := by
  decide +kernel

theorem witness_DriveIsChecked :
    (drivePayload 1 0 1000).length = 10 ∧ (withChan .idle).takesAtOnce ∧
    ((DriveRequest.ofPayload (drivePayload 1 255 100)).epoch ≠ (withChan .idle).epoch) ∧
    ((DriveRequest.ofPayload (drivePayload 1 0 100)).epoch = (withChan .idle).epoch) ∧
    (∃ c : ChanId, (DriveRequest.ofPayload (drivePayload 2 0 100)).names c = true ∧
      ((withChan .idle).chan c).state = .off) ∧
    (∀ c : ChanId, (DriveRequest.ofPayload (drivePayload 1 0 100)).names c = true →
      ((withChan .halt).chan c).state ≠ .off) ∧
    (∃ c : ChanId, (DriveRequest.ofPayload (drivePayload 1 0 100)).names c = true ∧
      ((withChan .halt).chan c).state = .halt ∧ (DriveRequest.ofPayload (drivePayload 1 0 100)).target c ≠ 0) := by
  decide +kernel

theorem witness_DriveSetsTargets :
    (withChan .idle).takesAtOnce ∧ (drivePayload 1 0 1001).length = 10 ∧
    (DriveRequest.ofPayload (drivePayload 1 0 1001)).epoch = (withChan .idle).epoch ∧
    (∀ c : ChanId, (DriveRequest.ofPayload (drivePayload 1 0 1001)).names c = true →
      ((withChan .idle).chan c).state ≠ .off) ∧
    (∀ c : ChanId, (DriveRequest.ofPayload (drivePayload 1 0 1001)).names c = true →
      ((withChan .idle).chan c).state = .halt → (DriveRequest.ofPayload (drivePayload 1 0 1001)).target c = 0) := by
  decide +kernel

theorem witness_StopAllZeroesEnabledChannels :
    driving.takesAtOnce ∧ ((0 : Byte) = 0 ∨ (0 : Byte) = 1) ∧ ((1 : Byte) = 0 ∨ (1 : Byte) = 1) ∧
    ((2 : Byte) ≠ 0 ∧ (2 : Byte) ≠ 1) := by decide

theorem witness_ProfilesReformEffectiveValues :
    let p : List Byte := [3, 3] ++ out16 1000 ++ out16 1000 ++ out16 4095
    let q : List Byte := [0, 0] ++ out16 1001 ++ out16 0 ++ out16 0
    driving.takesAtOnce ∧ p.length = 8 ∧ u8 p 0 = (3 : Fin 4).val ∧ u8 p 1 = (3 : Fin 4).val ∧
    (u16 p 2 ≤ 1000 ∧ u16 p 4 ≤ 1000 ∧ u16 p 6 ≤ 4095) ∧ (3 : Fin 4) ≠ driving.activeProfile ∧
    (0 : Fin 4) = driving.activeProfile ∧ q.length = 8 ∧ ¬ (u16 q 2 ≤ 1000 ∧ u16 q 4 ≤ 1000 ∧ u16 q 6 ≤ 4095) := by
  decide +kernel

theorem witness_SnapshotReportsOneChannel : driving.takesAtOnce ∧ (1 : Byte) ≠ 0 := by decide

theorem witness_OutputsFollowState :
    (State.reset.chan 0).state = .off ∧ ((withChan .idle).chan 0).state = .idle ∧
    ((withChan .halt).chan 0).state = .halt ∧ (guardedBy 2 .tripped).layer 0 = .coast ∧
    ((guardedBy 2 .tripped).setSource 1 { Source.initial with
      enabled := true, action := .brake, mask := 1, state := .latched }).layer 0 = .brake ∧
    (driving.chan 0).state = .run ∧ ((dwelling true).chan 0).state = .dwell := by decide

theorem witness_DutyArithmetic : 0 < 16 ∧ 16 % 2 = 0 ∧ 0 < 1000 ∧ 1000 % 2 = 0 := by decide

theorem witness_RampTickWork :
    driving.pins.nrst = true ∧ (driving.chan 0).state = .run ∧ ((dwelling true).chan 0).state = .dwell ∧
    (∃ c : ChanId, groupOf c = .motion ∧ ((driving.chan c).target ≠ 0 ∨ (driving.chan c).ramped ≠ 0)) ∧
    ¬ (∃ c : ChanId, groupOf c = .blade ∧ ((driving.chan c).target ≠ 0 ∨ (driving.chan c).ramped ≠ 0)) ∧
    (driving.hold .motion).left ≠ 1 ∧
    ((driving.setHold 0 { time := 250, left := 1 }).hold .motion).left = 1 ∧
    (let blade : State := State.reset.setChan 2 { Channel.initial with state := .run, target := 100 }
     (∃ c : ChanId, groupOf c = .blade ∧ ((blade.chan c).target ≠ 0 ∨ (blade.chan c).ramped ≠ 0)) ∧
     ((blade.setHold 1 { time := 500, left := 1 }).hold .blade).left = 1) := by decide

theorem witness_RampTickWork_bothExpire :
    bothExpiring.pins.nrst = true ∧ (bothExpiring.hold .motion).left = 1 ∧ (bothExpiring.hold .blade).left = 1 ∧
    (∃ c : ChanId, groupOf c = .motion ∧ ((bothExpiring.chan c).target ≠ 0 ∨ (bothExpiring.chan c).ramped ≠ 0)) ∧
    (∃ c : ChanId, groupOf c = .blade ∧ ((bothExpiring.chan c).target ≠ 0 ∨ (bothExpiring.chan c).ramped ≠ 0)) ∧
    rampStep (bothExpiring.chan 2).target (bothExpiring.chan 2).ramped (bothExpiring.effSlew 2) ≠
      (bothExpiring.chan 2).ramped ∧
    (bothExpiring.chan 1).state = .off := by decide

theorem witness_HoldExpiryStopsGroup :
    let s := driving.setHold 0 { time := 250, left := 1 }
    s.pins.nrst = true ∧ (s.hold .motion).left = 1 ∧
    (∃ c : ChanId, groupOf c = .motion ∧ ((s.chan c).target ≠ 0 ∨ (s.chan c).ramped ≠ 0)) ∧
    ¬ ((∃ c : ChanId, groupOf c = .blade ∧ ((s.chan c).target ≠ 0 ∨ (s.chan c).ramped ≠ 0)) ∧
      (s.hold .blade).left = 1) := by decide

theorem witness_PeriodBoundary :
    driving.pins.nrst = true ∧ (State.reset.chan 0).state = .off ∧ (driving.chan 0).state ≠ .off ∧
    (driving.chan 0).pendingPeriod = none ∧ unitOf 3 ≠ some 0 ∧
    ((dwelling true).chan 0).state = .dwell ∧ ((dwelling true).chan 0).direction = .fwd ∧
    ((dwelling true).chan 0).ramped < 0 ∧ ((dwelling true).chan 0).pulsed = true ∧
    ((dwelling false).chan 0).pulsed = false ∧
    ((driving.setChan 0 { driving.chan 0 with pendingPeriod := some 4000 }).chan 0).pendingPeriod ≠ none := by decide

theorem witness_FeedbackMovesFold_round :
    ([3, 8] : List Count)[({ channel := 3, element := 1 } : Feedback).element]? = some 8 := by decide

theorem witness_FeedbackMovesFold : (State.reset.chan 0).state = .off ∧ (driving.chan 0).state ≠ .off := by decide

theorem witness_DefinitionPayloadIsChecked :
    Definition.ofPayload (definePayload 1 255 0) = some plainDefinition ∧
    (Definition.ofPayload (definePayload 1 11 1)).isSome = true ∧ Definition.ofPayload (definePayload 1 12 0) = none ∧
    Definition.ofPayload (definePayload 1 255 1) = none ∧ Definition.ofPayload (definePayload 1 255 16) = none := by
  decide +kernel

theorem witness_DefineAcqWritesSlot :
    State.reset.takesAtOnce ∧ (definePayload 31 255 0).length = 25 ∧ u8 (definePayload 31 255 0) 0 = (31 : SlotId).val ∧
    (State.reset.slot 31).state = .free ∧ ((withSlot plainDefinition .waiting).slot 1).state = .waiting ∧
    (withSlot plainDefinition .waiting).takesAtOnce ∧ Definition.ofPayload (definePayload 31 255 0) = some plainDefinition ∧
    Definition.ofPayload (definePayload 31 12 0) = none := by decide +kernel

theorem witness_ArmAcqPlacesSlot :
    let onAnchor : Definition := { plainDefinition with anchor := some 11 }
    ((withSlot plainDefinition .idle).takesAtOnce ∧ ((withSlot plainDefinition .idle).slot 1).state = .idle ∧
      ((withSlot plainDefinition .idle).slot 1).defn.anchor = none) ∧
    ((State.reset.slot 1).state ≠ .idle) ∧
    (((withSlot onAnchor .idle).slot 1).state = .idle ∧ ((withSlot onAnchor .idle).slot 1).defn.anchor = some 11 ∧
      ¬ (((withSlot onAnchor .idle).anchor 11).mode = .one ∧ 0 < ((withSlot onAnchor .idle).anchor 11).bank)) ∧
    (let banked := (withSlot onAnchor .idle).setAnchor 11 { Anchor.initial with mode := .one, bank := 3 }
     (banked.anchor 11).mode = .one ∧ 0 < (banked.anchor 11).bank ∧ (banked.slot 1).state = .idle) ∧
    (let levelOf : SlotId → Fin 8 := fun y => if y.val < 4 then 1 else 5
     (∀ y ∈ ([0, 3] : List SlotId), levelOf y ≤ levelOf 2) ∧ (∀ y ∈ ([4, 31] : List SlotId), levelOf 2 < levelOf y)) := by
  decide +kernel

theorem witness_CancelAcqBringsToRest :
    State.reset.takesAtOnce ∧ (State.reset.slot 1).state = .free ∧ ((withSlot plainDefinition .idle).slot 1).state = .idle ∧
    (((withSlot { plainDefinition with anchor := some 0 } .waiting).slot 1).state = .waiting ∧
      ((withSlot { plainDefinition with anchor := some 0 } .waiting).slot 1).defn.anchor = some 0) ∧
    ((withSlot plainDefinition .ready).slot 1).state = .ready ∧
    ((converting plainDefinition).slot 1).state = .converting ∧ (converting plainDefinition).takesAtOnce := by
  decide +kernel

theorem witness_ReleaseAcqFreesSlot :
    State.reset.takesAtOnce ∧ 31 < (32 : Byte).toNat ∧ (31 : Byte).toNat = (31 : SlotId).val ∧
    ((withSlot plainDefinition .idle).slot 1).state = .idle ∧ (State.reset.slot 31).state ≠ .idle := by decide +kernel

theorem witness_SetAnchorWritesSettings :
    State.reset.takesAtOnce ∧ (anchorPayload 0 7 1 1 256 0).length = 10 ∧
    u8 (anchorPayload 0 7 1 1 256 0) 0 = (0 : AnchorId).val ∧
    (AnchorWrite.ofPayload 0 (anchorPayload 0 7 1 1 256 0)).isSome = true ∧
    (AnchorWrite.ofPayload 7 (anchorPayload 7 11 0 0 0 1000000)).isSome = true ∧
    (AnchorWrite.ofPayload 7 (anchorPayload 7 8 0 0 0 0)).isSome = true ∧
    AnchorWrite.ofPayload 7 (anchorPayload 7 8 0 0 0 99) = none ∧
    AnchorWrite.ofPayload 11 (anchorPayload 11 4 0 0 1 0) = none ∧
    AnchorWrite.ofPayload 0 (anchorPayload 0 4 0 0 257 0) = none ∧
    AnchorWrite.ofPayload 0 (anchorPayload 0 16 0 0 1 0) = none := by decide +kernel

theorem witness_PacedMoments_cancel :
    (let s : State := { (withSlot { plainDefinition with anchor := some 4 } .waiting).setAnchor 4
       { Anchor.initial with waitList := [1] } with pending := [.cancelAcq 1 [1]] }
     s.pending = .cancelAcq 1 [1] :: [] ∧ s.takesAtOnce ∧ (1 : Byte).toNat = (1 : SlotId).val ∧
       ((s.fireAnchor 4).slot 1).state = .ready) ∧
    (let s := firedBeforeCancel
     s.takesAtOnce ∧ s.conv = none ∧ (s.slot 1).state = .ready ∧ s.level (s.slot 1).defn.level = [1] ∧
       ∀ l : Fin 8, l ≠ (s.slot 1).defn.level → s.level l = []) := by decide +kernel

theorem witness_PacedMoments :
    driving.pins.nrst = true ∧ (State.reset.chan 0).state = .off ∧ (driving.chan 0).state ≠ .off ∧
    (driving.chan 0).divider ≤ (driving.chan 0).centreCount + 1 ∧
    (let s := driving.setChan 0 { driving.chan 0 with divider := 256 }
     (s.chan 0).centreCount + 1 < (s.chan 0).divider) ∧
    (let s := atTime (State.reset.setCadence 3 { period := 100, due := 100 }) 100
     (s.cadences.get 3).period ≠ 0 ∧ ((s.cadences.get 3).due - s.now).toInt ≤ 0) ∧
    ¬ ((State.reset.cadences.get 0).period ≠ 0 ∧ ((State.reset.cadences.get 0).due - State.reset.now).toInt ≤ 0) ∧
    (let s := atTime (withSlot { plainDefinition with waitLimit := 10 } .ready) 10
     let v := s.slot 1
     v.state = .ready ∧ v.cursor = 0 ∧ v.late = false ∧ v.defn.waitLimit ≠ 0 ∧
       (v.readySince + BitVec.ofNat 32 v.defn.waitLimit - s.now).toInt ≤ 0) ∧
    (let s := atTime (withSlot { plainDefinition with waitLimit := 10 } .ready) 9
     ¬ ((s.slot 1).readySince + BitVec.ofNat 32 (s.slot 1).defn.waitLimit - s.now).toInt ≤ 0) := by decide +kernel

theorem witness_DispatchTakesMostUrgent :
    let s := (withSlot plainDefinition .ready).setLevel 2 [1]
    (converting plainDefinition).conv.isSome = true ∧ (∀ l : Fin 8, State.reset.level l = []) ∧
    (s.conv = none ∧ (∀ m : Fin 8, m < 2 → s.level m = []) ∧ s.level 2 = 1 :: []) ∧
    ((s.slot 1).late = false ∧ (s.slot 1).defn.elements[(s.slot 1).cursor]? = some 4) ∧
    ((s.setSlot 1 { s.slot 1 with late := true }).slot 1).late = true := by decide +kernel

theorem witness_ConversionCompletes :
    let two : Definition := { plainDefinition with elements := [4, 5] }
    let busy := (converting two).setLevel 1 [7]
    State.reset.conv = none ∧ (converting two).conv = some { slot := 1, channel := 4, start := 0, elapsed := 0 } ∧
    (((converting two).setSlot 1 { slotIn two .converting with cancel := true }).slot 1).cancel = true ∧
    ((busy.slot 1).cancel = false ∧ (busy.slot 1).cursor + 1 < (busy.slot 1).defn.elements.length ∧
      (busy.slot 1).defn.atomic = false ∧ ∃ m : Fin 8, m < (busy.slot 1).defn.level ∧ busy.level m ≠ []) ∧
    (((converting two).slot 1).defn.elements[((converting two).slot 1).cursor + 1]? = some 5 ∧
      ¬ ∃ m : Fin 8, m < ((converting two).slot 1).defn.level ∧ (converting two).level m ≠ []) ∧
    (((converting plainDefinition).slot 1).defn.elements.length ≤ ((converting plainDefinition).slot 1).cursor + 1) := by
  decide +kernel

theorem witness_ConversionCompletes_cancel :
    let s : State := { preempted with pending := [.cancelAcq 255 [7]] }
    s.pending = .cancelAcq 255 [7] :: [] ∧ s.takesAtOnce ∧ (255 : Byte) ≠ 0 ∧ (7 : Byte).toNat = (7 : SlotId).val ∧
    (s.slot 7).state = .ready ∧ (preempted.slot 1).state ≠ .ready ∧ preempted.pending = [] := by decide +kernel

theorem witness_ConversionCompletes_resumed :
    let s := yieldedBeforeCancel
    s.conv = none ∧ (s.slot 7).state = .ready ∧ (1 : SlotId) ≠ 7 ∧ (s.slot 1).late = false ∧ (s.slot 1).cursor ≠ 0 ∧
    (s.slot 7).defn.level < 2 ∧ s.level 2 = [1] ∧ s.level (s.slot 7).defn.level = [7] ∧
    (∀ m : Fin 8, m ≠ 2 → m ≠ (s.slot 7).defn.level → s.level m = []) ∧ s.takesAtOnce ∧
    (7 : Byte).toNat = (7 : SlotId).val ∧ (s.slot 1).defn.elements[(s.slot 1).cursor]? = some 5 := by decide +kernel

theorem witness_RoundsAreFinished :
    ((withSlot plainDefinition .converting).slot 1).defn.repeating = false ∧
    (let counted : Definition := { plainDefinition with repeating := true, rounds := 3, anchor := some 0 }
     let v (remaining : Nat) : Slot := { slotIn counted .converting with remaining := remaining }
     (v 1).defn.repeating = true ∧ (v 1).defn.rounds ≠ 0 ∧ (v 1).remaining ≤ 1 ∧ 1 < (v 2).remaining ∧
     (v 2).defn.anchor = some 0) ∧
    (let forever : Definition := { plainDefinition with repeating := true, anchor := some 0 }
     forever.repeating = true ∧ forever.anchor = some 0 ∧ forever.rounds = 0) := by decide +kernel

theorem witness_RingEntriesAndWindows :
    let e : RingEntry := { slot := 1, status := .complete, number := 0, roundTime := 0, values := [1] }
    let full : Ring := { Ring.initial with entries := List.replicate 32 e }
    Ring.initial.entries.length < 32 ∧ ({ Ring.initial with entries := List.replicate 31 e }).entries.length < 32 ∧
    32 ≤ full.entries.length ∧ full.policy = .overwrite ∧ ({ full with policy := .keep }).policy = .keep ∧
    ([1, 2] : List Count)[1]? = some 2 ∧ (2 ≤ (2 : Count).toNat ∧ (2 : Count).toNat ≤ 2) ∧
    ¬ (3 ≤ (2 : Count).toNat ∧ (2 : Count).toNat ≤ 4095) := by decide +kernel

theorem witness_SetRingWritesPolicyAndWatermark :
    State.reset.takesAtOnce ∧ 7 < (8 : Byte).toNat ∧ (7 : Byte).toNat ≤ 7 ∧ (7 : Byte).toNat = (7 : RingId).val ∧
    ¬ ((2 : Byte).toNat ≤ 1 ∧ 1 ≤ (1 : Byte).toNat ∧ (1 : Byte).toNat ≤ 32) ∧
    ¬ ((1 : Byte).toNat ≤ 1 ∧ 1 ≤ (33 : Byte).toNat ∧ (33 : Byte).toNat ≤ 32) ∧
    ((1 : Byte).toNat ≤ 1 ∧ 1 ≤ (32 : Byte).toNat ∧ (32 : Byte).toNat ≤ 32) := by decide

theorem witness_ReadRingRemovesOldest :
    State.reset.takesAtOnce ∧ ((0 : Byte) = 0 ∨ 10 < (0 : Byte).toNat) ∧ 10 < (11 : Byte).toNat ∧
    ((10 : Byte) ≠ 0 ∧ (10 : Byte).toNat ≤ 10) ∧ ((1 : Byte) ≠ 0 ∧ (1 : Byte).toNat ≤ 10) := by decide

theorem witness_SetGuardConfiguresSource :
    let p := guardPayload 0 15 15 3 1000 15
    State.reset.takesAtOnce ∧ p.length = 7 ∧ u8 p 0 = (0 : SourceId).val ∧
    (State.reset.source 0).state = .inactive ∧ ((guardedBy 2 .qualifying).source 0).state = .qualifying ∧
    ((guardedBy 2 .latched).source 0).state = .latched ∧ ((guardedBy 2 .tripped).source 0).state = .tripped ∧
    (u8 p 1 < 16 ∧ u8 p 2 ≤ 15 ∧ u8 p 3 ≤ 3 ∧ 1 ≤ u16 p 4 ∧ u16 p 4 ≤ 1000 ∧ u8 p 6 < 16) ∧
    u8 p 3 = Action.code .brake ∧ ¬ (u16 (guardPayload 0 1 0 0 0 0) 4 ≥ 1) ∧
    ¬ (u16 (guardPayload 0 1 0 0 1001 0) 4 ≤ 1000) ∧ ¬ (u8 (guardPayload 0 1 16 0 1 0) 2 ≤ 15) := by decide +kernel

theorem witness_ClearTripReleasesLatchedSource :
    (guardedBy 2 .latched).takesAtOnce ∧ ((guardedBy 2 .tripped).source 0).state = .tripped ∧
    (State.reset.source 11).state = .inactive ∧ ((guardedBy 2 .qualifying).source 0).state = .qualifying ∧
    ((guardedBy 2 .latched).source 0).state = .latched ∧
    ¬ (((guardedBy 2 .latched).source 0).enabled = true ∧ (guardedBy 2 .latched).pinAsserted 0 = true) ∧
    (((guardedBy 2 .latched).setGin 0 false).pinAsserted 0 = true ∧ ((guardedBy 2 .latched).source 0).enabled = true ∧
      ((guardedBy 2 .latched).source 0).qualification ≠ 0) ∧
    ((guardedBy 0 .latched).source 0).qualification = 0 ∧ ((guardedBy 0 .latched).setGin 0 false).pinAsserted 0 = true := by
  decide +kernel

theorem witness_GuardPinsQualifyAndTrip :
    (guardedBy 2 .inactive).pins.nrst = true ∧
    (((guardedBy 2 .inactive).source (pinSource 0)).enabled = true ∧
      ((guardedBy 2 .inactive).source (pinSource 0)).state = .inactive ∧
      ((guardedBy 2 .inactive).source (pinSource 0)).qualification ≠ 0) ∧
    ((guardedBy 0 .inactive).source (pinSource 0)).qualification = 0 ∧
    (State.reset.source (pinSource 7)).enabled = false ∧
    ((guardedBy 2 .qualifying).source (pinSource 0)).state = .qualifying ∧
    ((guardedBy 2 .tripped).source (pinSource 0)).state = .tripped ∧
    ((guardedBy 2 .latched).source (pinSource 0)).state = .latched ∧
    (let s := atTime ((guardedBy 15 .qualifying).setGin 0 false) 15000
     let v := s.source (pinSource 0)
     v.state = .qualifying ∧ s.pins.gin.get 0 = v.activeHigh ∧
       (v.qualStart + BitVec.ofNat 32 (v.qualification * 1000) - s.now).toInt ≤ 0) ∧
    (let s := atTime ((guardedBy 15 .qualifying).setGin 0 false) 14999
     ¬ ((s.source (pinSource 0)).qualStart + BitVec.ofNat 32 ((s.source (pinSource 0)).qualification * 1000) -
       s.now).toInt ≤ 0) := by decide +kernel

theorem witness_TripsActInOrder :
    ((1 : BitVec 4).getLsbD (1 : ChanId).val = false) ∧ (1 : BitVec 4).getLsbD (0 : ChanId).val = true ∧
    (driving.chan 0).state ≠ .off ∧
    (let s := driving.setSource 0 ((guardedBy 2 .tripped).source 0)
     s.layer 0 = .coast ∧ (s.chan 0).state ≠ .halt) ∧
    ¬ (driving.layer 0 = .coast ∨ driving.layer 0 = .brake) ∧ (State.reset.chan 3).state = .off := by decide +kernel

theorem witness_TripsActInOrder_halted :
    let s := (driving.setSource 0 ((guardedBy 2 .tripped).source 0)).setChan 0 { Channel.initial with state := .halt }
    s.layer 0 = .coast ∧ (s.chan 0).state = .halt ∧ (1 : BitVec 4).getLsbD (0 : ChanId).val = true ∧
    unitOf 0 = some 0 := by decide +kernel

theorem witness_CountedEdgesMoveUnits :
    ((State.reset.counter 2).tallyLimit = 0) ∧ ((tallying 0).counter 0).tally + 1 < ((tallying 0).counter 0).tallyLimit ∧
    (((tallying 1).counter 0).tallyLimit ≠ 0 ∧
      ((tallying 1).counter 0).tallyLimit ≤ ((tallying 1).counter 0).tally + 1) ∧
    State.reset.pins.nrst = true ∧ (0 : UnitId) = unitOfDecoder 0 ∧ (1 : UnitId) = unitOfDecoder 1 ∧
    (let s := State.reset.setCounter 2 { Counter.initial with tallyLimit := 1 }
     (s.counter 2).tallyLimit ≠ 0 ∧ (s.counter 2).tallyLimit ≤ (s.counter 2).tally + 1) := by decide +kernel

theorem witness_CountedEdgesMoveUnits_pairs :
    ∀ last : Bool × Bool, ∀ a b : Bool,
      (a = last.1 ∧ b = last.2) ∨ (a = !last.2 ∧ b = last.1) ∨ (a = last.2 ∧ b = !last.1) ∨
        (a = !last.1 ∧ b = !last.2) := by decide

theorem witness_GraceArmsAndQuietStalls_conditions :
    let on (st : SourceState) : State := State.reset.setSource 8 { Source.initial with enabled := true, state := st }
    8 ≤ (8 : SourceId).val ∧ 8 ≤ (11 : SourceId).val ∧ (State.reset.source 11).enabled = false ∧
    (((on .inactive).source 8).enabled = true ∧ ((on .inactive).source 8).state = .inactive) ∧
    ((on .latched).source 8).state = .latched := by decide +kernel

theorem witness_GraceArmsAndQuietStalls :
    (let s := atTime driving 200000
     let k := s.counter 0
     s.pins.nrst = true ∧ (s.chan (chanOf 0)).mag ≠ 0 ∧ k.armed = false ∧ k.lockout = false ∧
       (k.graceStart + BitVec.ofNat 32 (k.grace * 1000) - s.now).toInt ≤ 0) ∧
    (let s := atTime driving 199999
     ¬ ((s.counter 0).graceStart + BitVec.ofNat 32 ((s.counter 0).grace * 1000) - s.now).toInt ≤ 0) ∧
    (let s := atTime (driving.setCounter 0 { Counter.initial with armed := true, quiet := 10 }) 10000
     let k := s.counter 0
     k.armed = true ∧ k.quiet ≠ 0 ∧ (k.quietStart + BitVec.ofNat 32 (k.quiet * 1000) - s.now).toInt ≤ 0) ∧
    (State.reset.counter 0).armed = false ∧ (State.reset.counter 0).lockout = false ∧
    (State.reset.counter 0).grace ≠ 0 ∧ ({ Counter.initial with grace := 0 }).grace = 0 := by decide +kernel

theorem witness_SetCounterWritesFields :
    let p := counterPayload 2 15 5 65535 2000 2000
    State.reset.takesAtOnce ∧ p.length = 12 ∧ u8 p 0 = (2 : UnitId).val ∧ u8 p 1 < 16 ∧
    (10 ≤ u16 p 8 ∧ u16 p 8 ≤ 2000) ∧ u16 p 10 ≤ 2000 ∧
    (CounterWrite.ofPayload p).isSome = true ∧ CounterWrite.ofPayload (counterPayload 2 4 0 0 9 0) = none ∧
    CounterWrite.ofPayload (counterPayload 2 8 0 0 0 2001) = none ∧
    (let s := atTime driving 1000
     let q := counterPayload 0 8 0 0 0 1
     (u8 q 1).testBit 3 = true ∧ (s.chan (chanOf 0)).mag ≠ 0 ∧ (s.counter 0).armed = false ∧
       (s.counter 0).lockout = false ∧
       ((s.counter 0).graceStart + BitVec.ofNat 32 (u16 q 10 * 1000) - s.now).toInt ≤ 0 ∧ s.takesAtOnce) := by
  decide +kernel

theorem witness_ReadCountersReportsUnits : State.reset.takesAtOnce ∧ (1 : Byte) ≠ 0 := by decide

end Sys2Proof.Tests
end

section
/-! Firings of the anchors (R34 to R36): what one release and a run of releases write, and the firing built from them. -/

namespace Sys2Proof.Machine

/-! ## The release of one slot (R36) -/

/-- A released slot as it enters READY at a time stamp (R36). -/
def Slot.released (v : Slot) (now : Stamp) : Slot := { v with state := .ready, readySince := now }

@[simp] theorem Slot.released_defn (v : Slot) (now : Stamp) : (v.released now).defn = v.defn := rfl

@[simp] theorem Slot.released_released (v : Slot) (now : Stamp) : (v.released now).released now = v.released now := rfl

@[simp] theorem State.now_release (s : State) (pos : InsertPos) (x : SlotId) : (s.release pos x).now = s.now := rfl

theorem State.slot_release (s : State) (pos : InsertPos) (x y : SlotId) :
    (s.release pos x).slot y = if x = y then (s.slot x).released s.now else s.slot y :=
  s.slot_setSlot x y _

/-- A release leaves every slot's definition, so its level, as it was. -/
@[simp] theorem State.defn_release (s : State) (pos : InsertPos) (x y : SlotId) :
    ((s.release pos x).slot y).defn = (s.slot y).defn := by
  rw [State.slot_release]
  split
  · next h => subst h; rfl
  · rfl

theorem State.level_release (s : State) (pos : InsertPos) (x : SlotId) (l : Fin 8) :
    (s.release pos x).level l = if (s.slot x).defn.level = l then placeIn pos x (s.level l) else s.level l := by
  have hplace : s.release pos x =
      (s.setSlot x ((s.slot x).released s.now)).setLevel (s.slot x).defn.level
        (placeIn pos x (s.level (s.slot x).defn.level)) := by
    simp [State.release, State.enterReady, State.placeReady, Slot.released, State.level]
  rw [hplace, State.level_setLevel]
  split
  · next h => rw [h]
  · rfl

/-! ## The release of several slots (R35, R36) -/

@[simp] theorem State.releaseAll_nil (s : State) (pos : InsertPos) : s.releaseAll pos [] = s := by
  cases pos <;> rfl

theorem State.releaseAll_tail_cons (s : State) (x : SlotId) (xs : List SlotId) :
    s.releaseAll .tail (x :: xs) = (s.release .tail x).releaseAll .tail xs := rfl

theorem State.releaseAll_head_cons (s : State) (x : SlotId) (xs : List SlotId) :
    s.releaseAll .head (x :: xs) = (s.releaseAll .head xs).release .head x := rfl

theorem State.releaseAll_singleton (s : State) (pos : InsertPos) (x : SlotId) :
    s.releaseAll pos [x] = s.release pos x := by
  cases pos <;> rfl

@[simp] theorem State.now_releaseAll (s : State) (pos : InsertPos) (xs : List SlotId) :
    (s.releaseAll pos xs).now = s.now := by
  simp [State.now]

theorem State.slot_releaseAll (s : State) (pos : InsertPos) (xs : List SlotId) (y : SlotId) :
    (s.releaseAll pos xs).slot y = if y ∈ xs then (s.slot y).released s.now else s.slot y := by
  cases pos with
  | tail =>
    induction xs generalizing s with
    | nil => simp
    | cons x xs ih =>
      rw [State.releaseAll_tail_cons, ih, State.slot_release]
      by_cases h : x = y
      · subst h; simp
      · simp [h, Ne.symm h]
  | head =>
    induction xs with
    | nil => simp
    | cons x xs ih =>
      rw [State.releaseAll_head_cons, State.slot_release]
      by_cases h : x = y
      · subst h; simp [ih, apply_ite (Slot.released · s.now)]
      · simp [h, Ne.symm h, ih]

/-- Releases leave every slot's definition, so its level, as it was. -/
@[simp] theorem State.defn_releaseAll (s : State) (pos : InsertPos) (xs : List SlotId) (y : SlotId) :
    ((s.releaseAll pos xs).slot y).defn = (s.slot y).defn := by
  rw [State.slot_releaseAll]
  split <;> rfl

/-- The slots of a list that stand in one level, in the order of the list. -/
def State.ofLevel (s : State) (l : Fin 8) (xs : List SlotId) : List SlotId :=
  xs.filter (fun x => (s.slot x).defn.level == l)

theorem State.ofLevel_cons (s : State) (l : Fin 8) (x : SlotId) (xs : List SlotId) :
    s.ofLevel l (x :: xs) = if (s.slot x).defn.level = l then x :: s.ofLevel l xs else s.ofLevel l xs := by
  simp [State.ofLevel, List.filter_cons]

@[simp] theorem State.ofLevel_release (s : State) (pos : InsertPos) (x : SlotId) (l : Fin 8) (xs : List SlotId) :
    (s.release pos x).ofLevel l xs = s.ofLevel l xs := by
  simp [State.ofLevel]

/-- Placed one by one at the tail, the released slots of a level stand behind it in list order. -/
theorem State.level_releaseAll_tail (s : State) (xs : List SlotId) (l : Fin 8) :
    (s.releaseAll .tail xs).level l = s.level l ++ s.ofLevel l xs := by
  induction xs generalizing s with
  | nil => simp [State.ofLevel]
  | cons x xs ih =>
    rw [State.releaseAll_tail_cons, ih, State.level_release, State.ofLevel_release, State.ofLevel_cons]
    split <;> simp [placeIn]

/-- Placed last first at the head, the released slots of a level stand ahead of it in list order. -/
theorem State.level_releaseAll_head (s : State) (xs : List SlotId) (l : Fin 8) :
    (s.releaseAll .head xs).level l = s.ofLevel l xs ++ s.level l := by
  induction xs with
  | nil => simp [State.ofLevel]
  | cons x xs ih =>
    rw [State.releaseAll_head_cons, State.level_release, State.defn_releaseAll, State.ofLevel_cons, ih]
    split <;> simp [placeIn]

/-! ## The firing (R34, R35) -/

/-- The slots a firing releases: the head of the wait list in ONE mode (R34), the whole list in ALL mode (R35). -/
def Anchor.releases (an : Anchor) : List SlotId := if an.mode = .one then an.waitList.take 1 else an.waitList

/-- The anchor after its firing: what stays on the wait list, and the bank (R34, R35, R37). -/
def Anchor.fired (an : Anchor) : Anchor :=
  { an with waitList := if an.mode = .one then an.waitList.drop 1 else []
            bank := if an.mode = .one ∧ an.waitList = [] then min 3 (an.bank + 1) else an.bank }

/-- The three cases of a firing in one form: the anchor is written, and what it releases is placed. -/
theorem State.fireAnchor_eq (s : State) (a : AnchorId) :
    s.fireAnchor a =
      (s.setAnchor a (s.anchor a).fired).releaseAll (s.anchor a).insert (s.anchor a).releases := by
  unfold State.fireAnchor
  obtain ⟨waitList, mode, insert, bank⟩ := s.anchor a
  cases mode with
  | all => simp [Anchor.releases, Anchor.fired]
  | one =>
    cases waitList with
    | nil => simp [Anchor.releases, Anchor.fired]
    | cons x rest => simp [Anchor.releases, Anchor.fired, State.releaseAll_singleton]

theorem State.fireAnchor_changes_only (s : State) (a : AnchorId) :
    s.fireAnchor a = { s with slots := (s.fireAnchor a).slots, anchors := (s.fireAnchor a).anchors,
                              ready := (s.fireAnchor a).ready } := by
  have hframe := s.fireAnchor_frame a
  generalize s.fireAnchor a = u at hframe ⊢
  cases u
  simpa using hframe

theorem State.anchor_fireAnchor (s : State) (a b : AnchorId) :
    (s.fireAnchor a).anchor b = if b = a then (s.anchor a).fired else s.anchor b := by
  have hplaced : (s.fireAnchor a).anchor b = (s.setAnchor a (s.anchor a).fired).anchor b := by
    simp [State.fireAnchor_eq, State.anchor]
  simp [hplaced, State.anchor_setAnchor, eq_comm]

theorem State.slot_fireAnchor (s : State) (a : AnchorId) (x : SlotId) :
    (s.fireAnchor a).slot x = if x ∈ (s.anchor a).releases then (s.slot x).released s.now else s.slot x := by
  rw [State.fireAnchor_eq, State.slot_releaseAll]
  rfl

theorem State.level_fireAnchor (s : State) (a : AnchorId) (l : Fin 8) :
    (s.fireAnchor a).level l =
      if (s.anchor a).insert = .tail then s.level l ++ s.ofLevel l (s.anchor a).releases
      else s.ofLevel l (s.anchor a).releases ++ s.level l := by
  rw [State.fireAnchor_eq]
  cases (s.anchor a).insert with
  | tail => exact State.level_releaseAll_tail _ _ l
  | head => exact State.level_releaseAll_head _ _ l

/-- Settles O44: the firing is one write of the anchor and one run of releases (`State.fireAnchor_eq`), and each part
of the statement reads one table of the state after them. -/
theorem anchorsReleaseSlots : Obligations.AnchorsReleaseSlots := by
  intro s a
  exact ⟨s.fireAnchor_changes_only a, s.anchor_fireAnchor a, s.slot_fireAnchor a, s.level_fireAnchor a⟩

end Sys2Proof.Machine
end

section
/-! The guard layer of a channel (R112, R135): which layer a list of parts composes, and the sources that are a channel's
parts. -/

namespace Sys2Proof.Machine

/-! ## The smallest cap value (R112) -/

theorem smallest_eq_min? (xs : List Nat) : smallest xs = xs.min? := by
  induction xs with
  | nil => rfl
  | cons x rest ih =>
    rw [smallest, ih, List.min?_cons]
    cases rest.min? <;> rfl

theorem smallest_eq_none_iff {xs : List Nat} : smallest xs = none ↔ xs = [] := by
  rw [smallest_eq_min?, List.min?_eq_none_iff]

theorem smallest_eq_some_iff {xs : List Nat} {m : Nat} : smallest xs = some m ↔ m ∈ xs ∧ ∀ x ∈ xs, m ≤ x := by
  rw [smallest_eq_min?, List.min?_eq_some_iff]

/-! ## The layer that parts compose (R135) -/

/-- The cap values of the CAP sources among the parts (R112). -/
def capValues (parts : List Source) : List Nat := (parts.filter (fun p => p.action == .cap)).map (fun p => p.capValue)

theorem mem_capValues {parts : List Source} {v : Nat} :
    v ∈ capValues parts ↔ ∃ p ∈ parts, p.action = .cap ∧ p.capValue = v := by
  simp [capValues, and_assoc]

theorem forall_mem_capValues {parts : List Source} {P : Nat → Prop} :
    (∀ v ∈ capValues parts, P v) ↔ ∀ p ∈ parts, p.action = .cap → P p.capValue := by
  simp only [mem_capValues]
  exact ⟨fun h p hp ha => h _ ⟨p, hp, ha, rfl⟩, by rintro h _ ⟨p, hp, ha, rfl⟩; exact h p hp ha⟩

theorem capValues_eq_nil_iff {parts : List Source} : capValues parts = [] ↔ ¬ ∃ p ∈ parts, p.action = .cap := by
  simp [capValues]

/-- What R135 says of a layer: its action is the strongest among the parts, in the order BRAKE, COAST, CAP, REPORT, and
its cap the smallest of the CAP sources' values. -/
def Layer.strongestOf (parts : List Source) : Layer → Prop
  | .brake => ∃ p ∈ parts, p.action = .brake
  | .coast => (∃ p ∈ parts, p.action = .coast) ∧ ¬ ∃ p ∈ parts, p.action = .brake
  | .cap gc => (¬ ∃ p ∈ parts, p.action = .brake ∨ p.action = .coast) ∧
      (∃ p ∈ parts, p.action = .cap ∧ p.capValue = gc) ∧ ∀ p ∈ parts, p.action = .cap → gc ≤ p.capValue
  | .report => (∃ p ∈ parts, p.action = .report) ∧
      ¬ ∃ p ∈ parts, p.action = .brake ∨ p.action = .coast ∨ p.action = .cap
  | .empty => parts = []

/-- Some layer is as R135 says: the strongest action present gives it, and with none present no part is left. -/
theorem Layer.exists_strongestOf (parts : List Source) : ∃ l : Layer, l.strongestOf parts := by
  by_cases hbrake : ∃ p ∈ parts, p.action = .brake
  · exact ⟨.brake, hbrake⟩
  by_cases hcoast : ∃ p ∈ parts, p.action = .coast
  · exact ⟨.coast, hcoast, hbrake⟩
  cases hcap : smallest (capValues parts) with
  | some gc =>
    obtain ⟨hmem, hleast⟩ := smallest_eq_some_iff.mp hcap
    have hnoHalt : ¬ ∃ p ∈ parts, p.action = .brake ∨ p.action = .coast := by grind
    exact ⟨.cap gc, hnoHalt, mem_capValues.mp hmem, forall_mem_capValues.mp hleast⟩
  | none =>
    have hnoCap := capValues_eq_nil_iff.mp (smallest_eq_none_iff.mp hcap)
    cases parts with
    | nil => exact ⟨.empty, rfl⟩
    | cons p rest =>
      have hreport : p.action = .report := by
        cases ha : p.action <;> grind
      exact ⟨.report, ⟨p, by simp, hreport⟩, by grind⟩

/-- With no BRAKE or COAST among the parts, the smallest cap value decides. -/
theorem composeLayer_of_noHalt {parts : List Source}
    (h : ¬ ∃ p ∈ parts, p.action = .brake ∨ p.action = .coast) :
    composeLayer parts =
      (smallest (capValues parts)).elim (if parts.isEmpty then .empty else .report) Layer.cap := by
  have hbrake : parts.any (fun p => p.action == .brake) = false := by
    simpa using fun p hp ha => h ⟨p, hp, .inl ha⟩
  have hcoast : parts.any (fun p => p.action == .coast) = false := by
    simpa using fun p hp ha => h ⟨p, hp, .inr ha⟩
  unfold composeLayer
  rw [hbrake, hcoast, ← capValues]
  cases smallest (capValues parts) <;> rfl

/-- The composition takes the actions in the order of R135, so it finds the layer that is as R135 says. -/
theorem composeLayer_eq_of_strongestOf {parts : List Source} {l : Layer} (h : l.strongestOf parts) :
    composeLayer parts = l := by
  cases l with
  | brake =>
    have hbrake : ∃ p ∈ parts, p.action = .brake := h
    simp [composeLayer, hbrake]
  | coast =>
    obtain ⟨hcoast, hnoBrake⟩ := h
    simp [composeLayer, hcoast, hnoBrake]
  | cap gc =>
    obtain ⟨hnoHalt, hmem, hleast⟩ := h
    have hcap : smallest (capValues parts) = some gc :=
      smallest_eq_some_iff.mpr ⟨mem_capValues.mpr hmem, forall_mem_capValues.mpr hleast⟩
    rw [composeLayer_of_noHalt hnoHalt, hcap, Option.elim_some]
  | report =>
    obtain ⟨⟨p, hp, _⟩, hnone⟩ := h
    have hnoHalt : ¬ ∃ p ∈ parts, p.action = .brake ∨ p.action = .coast := by grind
    have hnoCap : ¬ ∃ p ∈ parts, p.action = .cap := by grind
    have hnil : smallest (capValues parts) = none := smallest_eq_none_iff.mpr (capValues_eq_nil_iff.mpr hnoCap)
    rw [composeLayer_of_noHalt hnoHalt, hnil]
    simp [List.ne_nil_of_mem hp]
  | empty =>
    have hnil : parts = [] := h
    subst hnil
    rfl

theorem composeLayer_eq_iff {parts : List Source} {l : Layer} : composeLayer parts = l ↔ l.strongestOf parts := by
  refine ⟨?_, composeLayer_eq_of_strongestOf⟩
  rintro rfl
  obtain ⟨l, hl⟩ := Layer.exists_strongestOf parts
  rwa [composeLayer_eq_of_strongestOf hl]

/-! ## The parts of a channel's layer (R135) -/

/-- The sources that play a part in a channel's layer, in the order of their numbers. -/
def State.parts (s : State) (c : ChanId) : List Source := s.sources.toList.filter (fun src => src.holds c)

theorem State.layer_eq_iff {s : State} {c : ChanId} {l : Layer} : s.layer c = l ↔ l.strongestOf (s.parts c) :=
  composeLayer_eq_iff

theorem Source.holds_iff {src : Source} {c : ChanId} :
    src.holds c = true ↔ (src.state = .tripped ∨ src.state = .latched) ∧ src.mask.getLsbD c.val = true := by
  simp [Source.holds]

theorem State.mem_sources {s : State} {src : Source} : src ∈ s.sources.toList ↔ ∃ n, s.source n = src := by
  simp [State.source, Vector.mem_iff_getElem, Fin.exists_iff, Vector.get_eq_getElem]

theorem State.mem_parts {s : State} {c : ChanId} {src : Source} :
    src ∈ s.parts c ↔ ∃ n, s.source n = src ∧ (s.source n).holds c = true := by
  rw [State.parts, List.mem_filter, State.mem_sources]
  constructor
  · rintro ⟨⟨n, rfl⟩, h⟩
    exact ⟨n, rfl, h⟩
  · rintro ⟨n, rfl, h⟩
    exact ⟨⟨n, rfl⟩, h⟩

theorem State.exists_mem_parts {s : State} {c : ChanId} {P : Source → Prop} :
    (∃ p ∈ s.parts c, P p) ↔ ∃ n, (s.source n).holds c = true ∧ P (s.source n) := by
  simp [State.mem_parts]

theorem State.forall_mem_parts {s : State} {c : ChanId} {P : Source → Prop} :
    (∀ p ∈ s.parts c, P p) ↔ ∀ n, (s.source n).holds c = true → P (s.source n) := by
  simp only [State.mem_parts]
  exact ⟨fun h n hn => h _ ⟨n, rfl, hn⟩, by rintro h _ ⟨n, rfl, hn⟩; exact h n hn⟩

theorem State.parts_eq_nil_iff {s : State} {c : ChanId} : s.parts c = [] ↔ ¬ ∃ n, (s.source n).holds c = true := by
  rw [List.eq_nil_iff_forall_not_mem, State.forall_mem_parts (P := fun _ => False), not_exists]

/-- Settles O56: the layer is the strongest of the channel's parts (`State.layer_eq_iff`), and its parts are the sources
that hold the channel (`State.mem_parts`). -/
theorem layerIsStrongestAction : Obligations.LayerIsStrongestAction := by
  intro s c acts
  have hacts (n : SourceId) (a : Action) : acts n a ↔ (s.source n).holds c = true ∧ (s.source n).action = a := by
    rw [Source.holds_iff, and_comm]
  simp only [hacts, State.layer_eq_iff, Layer.strongestOf]
  refine ⟨?brake, ?coast, fun gc => ?cap, ?report, ?empty⟩
  case brake => exact State.exists_mem_parts
  case coast => simp only [State.exists_mem_parts]
  case cap => simp only [State.exists_mem_parts, State.forall_mem_parts, and_assoc, and_imp, ← and_or_left]
  case report => simp only [State.exists_mem_parts, ← and_or_left]
  case empty => simp [State.parts_eq_nil_iff]

end Sys2Proof.Machine
end

section
/-! What a step can do, said once: the command at the front or a tick (R158, log 6), and the works on the blocks of which
every command but a reset and a period boundary is made up. The invariants of the blocks are proved work by work. -/

namespace Sys2Proof.Machine

/-! ## The state a command leaves -/

/-- The state a command leaves: every command answers a next state (`exec_eq`). -/
def effect (c : Instr) (s : State) : State :=
  match exec c s with
  | .next t => t
  | .fault _ => s
  | .refused _ => s

theorem exec_eq (c : Instr) (s : State) : exec c s = .next (effect c s) := by
  cases c <;> rfl

theorem effect_eq_of_exec {c : Instr} {s t : State} (h : exec c s = .next t) : effect c s = t := by
  simp [effect, h]

theorem step_of_pending_cons {s : State} {c : Instr} {rest : List Instr} (h : s.pending = c :: rest) :
    step s = exec c (s.withRest rest) := by
  simp [step, h]

theorem step_of_pending_nil {s : State} (h : s.pending = []) : step s = .next s.tick := by
  simp [step, h]

/-- A step is a tick of the timebase or the command at the front with the queue's rest. -/
theorem step_cases {s t : State} (h : step s = .next t) :
    (s.pending = [] ∧ t = s.tick) ∨
      ∃ (c : Instr) (rest : List Instr), s.pending = c :: rest ∧ t = effect c (s.withRest rest) := by
  cases hp : s.pending with
  | nil =>
    rw [step_of_pending_nil hp] at h
    exact .inl ⟨rfl, by injection h with h; exact h.symm⟩
  | cons c rest =>
    rw [step_of_pending_cons hp] at h
    exact .inr ⟨c, rest, rfl, (effect_eq_of_exec h).symm⟩

/-- Settles O1: the step is read off the queue, and every command answers (`exec_eq`). -/
theorem stepRunsFrontCommand : Obligations.StepRunsFrontCommand :=
  ⟨⟨fun _ _ _ h => step_of_pending_cons h, fun _ _ _ => ⟨rfl, rfl⟩⟩, fun c s => ⟨_, exec_eq c s⟩⟩

/-! ## Works on the blocks -/

/-- Two states agree on the acquisition table, the anchors, the ready queue, the converter, the rings, the channels, the
profiles, the guard sources and the counting units. -/
structure State.SameBlocks (s t : State) : Prop where
  slots : t.slots = s.slots
  anchors : t.anchors = s.anchors
  ready : t.ready = s.ready
  conv : t.conv = s.conv
  rings : t.rings = s.rings
  chans : t.chans = s.chans
  profiles : t.profiles = s.profiles
  activeProfile : t.activeProfile = s.activeProfile
  sources : t.sources = s.sources
  counters : t.counters = s.counters

/-- Two channels agree but for the marks that no law of the drive reads: centre divider and count, brake-held, the sticky
flags, the pulse timer. -/
def Channel.SameButMarks (v w : Channel) : Prop :=
  v = { w with divider := v.divider, centreCount := v.centreCount, brakeHeld := v.brakeHeld
               limCurrent := v.limCurrent, limCap := v.limCap, fbMissed := v.fbMissed, phase := v.phase }

/-- Two sources agree on what a SET-GUARD writes (R125, R127). -/
def Source.SameConfig (v w : Source) : Prop :=
  v = { w with state := v.state, qualStart := v.qualStart, trippedSince := v.trippedSince, heldLong := v.heldLong }

/-- A work on the acquisition table, the anchors, the ready queue and the converter. -/
inductive AcqWork : State → State → Prop
  | define {s : State} (x : SlotId) (d : Definition) : (s.slot x).state.inUse = false → d.elements ≠ [] →
      AcqWork s (s.setSlot x (Slot.defined d))
  | free {s : State} (x : SlotId) : (s.slot x).state = .idle → AcqWork s (s.setSlot x Slot.free)
  | arm {s : State} (x : SlotId) : (s.slot x).state = .idle → AcqWork s (s.armSlot x)
  | leaveWait {s : State} (x : SlotId) : (s.slot x).state = .waiting → AcqWork s ((s.leaveWait x).rest x)
  | leaveReady {s : State} (x : SlotId) : (s.slot x).state = .ready → AcqWork s ((s.leaveReady x).rest x)
  | flag {s : State} (x : SlotId) (late cancel : Bool) :
      AcqWork s (s.setSlot x { s.slot x with late := late, cancel := cancel })
  | writeAnchor {s : State} (a : AnchorId) (w : AnchorWrite) : AcqWork s (s.setAnchor a ((s.anchor a).written w))
  | fireAnchor {s : State} (a : AnchorId) : AcqWork s (s.fireAnchor a)
  | start {s : State} (l : Fin 8) (x : SlotId) (rest : List SlotId) : s.conv = none → s.level l = x :: rest →
      AcqWork s ((s.setLevel l rest).startConversion x)
  | store {s : State} (x : SlotId) (value : Count) : s.conv.map (fun v => v.slot) = some x →
      (s.slot x).cursor + 1 < (s.slot x).defn.elements.length →
      AcqWork s (s.setSlot x { s.slot x with
        cursor := (s.slot x).cursor + 1, partials := (s.slot x).partials ++ [value] })
  | nextElement {s : State} (x : SlotId) : s.conv.map (fun v => v.slot) = some x → AcqWork s (s.startElement x)
  | yieldSlot {s : State} (x : SlotId) : s.conv.map (fun v => v.slot) = some x →
      AcqWork s { (s.setSlot x { s.slot x with state := .ready }).placeReady x .head with conv := none }
  | cancelled {s : State} (x : SlotId) : s.conv.map (fun v => v.slot) = some x →
      AcqWork s { s.setSlot x (s.slot x).atRest with conv := none }
  | closeRound {s : State} (x : SlotId) : s.conv.map (fun v => v.slot) = some x →
      AcqWork s { s.finishRound x with conv := none }

/-- A work on the channels, the profiles, the guard sources and the counting units. -/
inductive DriveWork : State → State → Prop
  | mark {s : State} (c : ChanId) (v : Channel) : v.SameButMarks (s.chan c) → DriveWork s (s.setChan c v)
  | writeChannel {s : State} (c : ChanId) (w : ChannelWrite) : DriveWork s (s.writeChannel c w)
  | drive {s : State} (d : DriveRequest) : s.driveNamesOff d = false → s.driveGuarded d = false →
      DriveWork s (s.setTargets d)
  | stop {s : State} (brake : Bool) (c : ChanId) : (s.chan c).state ≠ .off → DriveWork s (State.stopChannel brake s c)
  | dropTarget {s : State} (c : ChanId) : DriveWork s (s.setChan c { s.chan c with target := 0 })
  | writeProfile {s : State} (pf : Fin 4) (c : ChanId) (o : Overrides) : DriveWork s (s.writeProfile pf c o)
  | selectProfile {s : State} (pf : Fin 4) : DriveWork s (s.selectProfile pf)
  | ramp {s : State} (c : ChanId) : DriveWork s (s.tickChannel c)
  | deliver {s : State} (c : ChanId) (value : Count) : DriveWork s (s.deliver c value)
  | configure {s : State} (n : SourceId) (w : GuardWrite) : (s.source n).state.acting = false →
      DriveWork s (s.setSource n ((s.source n).configured w))
  | qualify {s : State} (n : SourceId) : (s.source n).enabled = true → (s.source n).state = .inactive →
      (pinOf n).isSome = true → DriveWork s (s.qualify n)
  | unqualify {s : State} (n : SourceId) : (s.source n).state = .qualifying →
      DriveWork s (s.setSource n { s.source n with state := .inactive })
  | latch {s : State} (n : SourceId) : (s.source n).state = .tripped →
      DriveWork s (s.setSource n { s.source n with state := .latched })
  | trip {s : State} (n : SourceId) (src : Source) (k : EventKind) (m : Nat) (d : BitVec 16) :
      src.SameConfig (s.source n) → (src.enabled = true ∨ (s.source n).state ≠ .inactive) →
      (src.state = .latched ∨ (src.state = .tripped ∧ (pinOf n).isSome = true)) →
      DriveWork s (((s.setSource n src).post k m d).applyMask src.mask)
  | clear {s : State} (n : SourceId) (src : Source) : (s.source n).state = .latched → src.SameConfig (s.source n) →
      (src.state = .inactive ∨ (src.state = .qualifying ∧ src.enabled = true ∧ (pinOf n).isSome = true)) →
      DriveWork s ((s.setSource n src).applyMask src.mask)
  | count {s : State} (u : UnitId) (up : Bool) : DriveWork s (s.setCounter u ((s.counter u).counted up s.now))
  | armUnit {s : State} (u : UnitId) : s.graceOver u = true → DriveWork s (s.setCounter u ((s.counter u).arm s.now))
  | disarm {s : State} (u : UnitId) : DriveWork s (s.disarmStalled u)
  | writeUnit {s : State} (u : UnitId) (w : CounterWrite) :
      DriveWork s (s.setCounter u ((s.counter u).written w s.now))

/-- A work on the blocks. -/
inductive Work : State → State → Prop
  | elsewhere {s t : State} : s.SameBlocks t → Work s t
  | time {s : State} : Work s s.advanceTime
  | acq {s t : State} : AcqWork s t → Work s t
  | drive {s t : State} : DriveWork s t → Work s t
  | missed {s : State} (l : Fin 8) (x : SlotId) (rest : List SlotId) : s.conv = none → s.level l = x :: rest →
      Work s ((s.setLevel l rest).finishMissed x)
  | ringWrite {s : State} (n : RingId) (e : RingEntry) : Work s (s.ringWrite n e)
  | setRing {s : State} (n : RingId) (r : Ring) : r.entries.length ≤ (s.ring n).entries.length →
      Work s (s.setRing n r)

end Sys2Proof.Machine
end

section
/-! Every command but a reset and a period boundary is a sequence of works on the blocks. -/

namespace Sys2Proof.Machine

open Relation (ReflTransGen)

/-- One work on the blocks after another. -/
abbrev Works : State → State → Prop := ReflTransGen Work

theorem Work.works {s t : State} (h : Work s t) : Works s t := .single h
theorem AcqWork.works {s t : State} (h : AcqWork s t) : Works s t := .single (.acq h)
theorem DriveWork.works {s t : State} (h : DriveWork s t) : Works s t := .single (.drive h)
theorem State.SameBlocks.works {s t : State} (h : s.SameBlocks t) : Works s t := .single (.elsewhere h)

theorem works_ite {p : Prop} [Decidable p] {s a b : State} (ha : p → Works s a) (hb : ¬ p → Works s b) :
    Works s (if p then a else b) := by
  split
  · exact ha ‹_›
  · exact hb ‹_›

theorem works_foldl {α : Type} {f : State → α → State} (h : ∀ s a, Works s (f s a)) (l : List α) (s : State) :
    Works s (l.foldl f s) := by
  induction l generalizing s with
  | nil => exact .refl
  | cons a l ih => exact (h s a).trans (ih (f s a))

/-! ## What changes no block -/

theorem post_works (s : State) (k : EventKind) (n : Nat) (d : BitVec 16) : Works s (s.post k n d) :=
  State.SameBlocks.works (by constructor <;> simp)

theorem advanceEpoch_works (s : State) : Works s s.advanceEpoch :=
  State.SameBlocks.works (by constructor <;> simp)

theorem setHold_works (s : State) (g : Fin 2) (v : Hold) : Works s (s.setHold g v) :=
  State.SameBlocks.works (by constructor <;> simp)

theorem withRest_works (s : State) (l : List Instr) : Works s (s.withRest l) :=
  State.SameBlocks.works (by constructor <;> simp)

theorem setRequests_works (s : State) (l : List Request) : Works s (s.setRequests l) :=
  State.SameBlocks.works (by constructor <;> simp)

theorem setLinkError_works (s : State) : Works s s.setLinkError :=
  State.SameBlocks.works (by constructor <;> simp)

theorem setReceiver_works (s : State) (m : RxMode) : Works s (s.setReceiver m) :=
  State.SameBlocks.works (by constructor <;> simp)

/-- Work in which no command of the queue falls. -/
theorem alone_works {s : State} {work : State → State}
    (h : Works { s with pending := [] } (work { s with pending := [] })) : Works s (s.alone work) := by
  have hempty : Works s { s with pending := [] } := State.SameBlocks.works (by constructor <;> rfl)
  have hback : Works (work { s with pending := [] }) (s.alone work) :=
    State.SameBlocks.works (by constructor <;> simp)
  exact (hempty.trans h).trans hback

/-! ## Dispatch and firings -/

theorem State.mostUrgent_level {s : State} {l : Fin 8} {x : SlotId} {rest : List SlotId}
    (h : s.mostUrgent = some (l, x, rest)) : s.level l = x :: rest := by
  obtain ⟨m, -, hm⟩ := List.exists_of_findSome?_eq_some h
  split at hm
  · cases hm
  · next heq =>
    obtain ⟨rfl, rfl, rfl⟩ := by simpa using hm
    exact heq

theorem dispatchChain_works (n : Nat) (s : State) : Works s (State.dispatchChain n s) := by
  induction n generalizing s with
  | zero => exact .refl
  | succ n ih =>
    simp only [State.dispatchChain]
    split
    · exact .refl
    · exact .refl
    · next l x rest hconv hurgent =>
      have hlevel := State.mostUrgent_level hurgent
      exact works_ite (fun _ => (Work.missed l x rest hconv hlevel).works.trans (ih _))
        (fun _ => (AcqWork.start l x rest hconv hlevel).works)

theorem dispatch_works (s : State) : Works s s.dispatch := dispatchChain_works _ s

theorem settle_works (s : State) : Works s s.settle := works_ite (fun _ => .refl) (fun _ => dispatch_works s)

theorem fire_works (s : State) (a : AnchorId) : Works s (s.fire a) :=
  (AcqWork.fireAnchor a).works.trans (settle_works _)

/-! ## The guard unit -/

@[simp] theorem pinOf_pinSource (p : Fin 8) : pinOf (pinSource p) = some p := by
  simp [pinOf, pinSource]

theorem tripOptions_works (s : State) (e g : Bool) : Works s (s.tripOptions e g) := by
  cases e <;> cases g <;> simp only [State.tripOptions, if_true, if_false, Bool.false_eq_true]
  · exact .refl
  · exact fire_works _ _
  · exact advanceEpoch_works s
  · exact (advanceEpoch_works s).trans (fire_works _ _)

/-- A source that takes a state in which it acts, and the work of its trip. -/
theorem tripWork_works {s : State} {n : SourceId} {src : Source} (hconfig : src.SameConfig (s.source n))
    (hon : src.enabled = true ∨ (s.source n).state ≠ .inactive)
    (hstate : src.state = .latched ∨ (src.state = .tripped ∧ (pinOf n).isSome = true)) :
    Works s ((s.setSource n src).tripWork n) := by
  simp only [State.tripWork, State.source_setSource_self]
  exact (DriveWork.trip n src _ _ _ hconfig hon hstate).works.trans (tripOptions_works _ _ _)

theorem tripPin_works {s : State} {n : SourceId} (hon : (s.source n).enabled = true ∨ (s.source n).state ≠ .inactive)
    (hpin : (pinOf n).isSome = true) : Works s (s.tripPin n) :=
  tripWork_works rfl hon (.inr ⟨rfl, hpin⟩)

theorem tripInternal_works {s : State} {n : SourceId} (hon : (s.source n).enabled = true) :
    Works s (s.tripInternal n) :=
  tripWork_works rfl (.inl hon) (.inl rfl)

theorem internalCondition_works (s : State) (n : SourceId) : Works s (s.internalCondition n) := by
  refine works_ite (fun _ => .refl) (fun hon => ?_)
  split
  · exact tripInternal_works (by simpa using hon)
  · exact post_works _ _ _ _
  · exact .refl

theorem seeAsserted_works {s : State} {n : SourceId} (hon : (s.source n).enabled = true)
    (hst : (s.source n).state = .inactive) (hpin : (pinOf n).isSome = true) : Works s (s.seeAsserted n) :=
  works_ite (fun _ => tripPin_works (.inl hon) hpin) (fun _ => (DriveWork.qualify n hon hst hpin).works)

theorem setGin_works (s : State) (p : Fin 8) (level : Bool) : Works s (s.setGin p level) :=
  State.SameBlocks.works (by constructor <;> simp)

theorem assertPin_works (s : State) (p : Fin 8) : Works s (s.assertPin p) := by
  refine (setGin_works s p _).trans (works_ite (fun h => ?_) (fun _ => .refl))
  exact seeAsserted_works h.1 h.2 (by simp)

theorem deassertPin_works (s : State) (p : Fin 8) : Works s (s.deassertPin p) := by
  refine (setGin_works s p (!(s.source (pinSource p)).activeHigh)).trans ?_
  simp only [State.deassertPin]
  split
  · exact (DriveWork.unqualify (s := s.setGin p _) (pinSource p) ‹_›).works
  · exact (DriveWork.latch (s := s.setGin p _) (pinSource p) ‹_›).works.trans (post_works _ _ _ _)
  · exact .refl

theorem expireQualification_works (s : State) (p : Fin 8) : Works s (s.expireQualification p) :=
  works_ite (fun h => tripPin_works (.inr (by simp [h.1])) (by simp)) (fun _ => .refl)

theorem pinOf_isSome_of_pinAsserted {s : State} {n : SourceId} (h : s.pinAsserted n = true) :
    (pinOf n).isSome = true := by
  unfold State.pinAsserted at h
  split at h
  · cases h
  · next hp => simp [hp]

theorem writeGuard_works {s : State} {n : SourceId} (w : GuardWrite) (h : (s.source n).state.acting = false) :
    Works s (s.writeGuard n w) := by
  refine (DriveWork.configure n w h).works.trans (works_ite (fun hsees => ?_) (fun _ => .refl))
  have hpin := pinOf_isSome_of_pinAsserted hsees.2
  exact alone_works (seeAsserted_works hsees.1 (by simp [State.source, State.setSource, Source.configured]) hpin)

/-- A source written twice holds the later. -/
theorem State.setSource_setSource (s : State) (n : SourceId) (v w : Source) :
    (s.setSource n v).setSource n w = s.setSource n w := by
  simp [State.setSource]

theorem clearTrip_works (s : State) (n : SourceId) : Works s (s.clearTrip n) := by
  refine works_ite (fun hlatched => ?_) (fun _ => .refl)
  have hcleared : (s.source n).cleared.SameConfig (s.source n) := rfl
  unfold State.afterClear
  refine works_ite (fun hsees => works_ite (fun _ => ?_) (fun _ => ?_)) (fun _ => ?_)
  · have hempty : Works s { s with pending := [] } := State.SameBlocks.works (by constructor <;> rfl)
    have htrip : Works { s with pending := [] } (({ s with pending := [] }.setSource n (s.source n).cleared).tripPin n) := by
      unfold State.tripPin
      rw [State.setSource_setSource]
      refine tripWork_works ?_ (.inr ?_) (.inr ⟨rfl, pinOf_isSome_of_pinAsserted hsees.2⟩)
      · rw [State.source_setSource_self]; rfl
      · show (s.source n).state ≠ _; simp [hlatched]
    exact (hempty.trans htrip).trans (State.SameBlocks.works (by constructor <;> rfl))
  · unfold State.qualify
    rw [State.setSource_setSource, State.source_setSource_self]
    exact (DriveWork.clear n { (s.source n).cleared with state := .qualifying, qualStart := s.now } hlatched rfl
      (.inr ⟨rfl, by simpa using hsees.1, pinOf_isSome_of_pinAsserted hsees.2⟩)).works
  · rw [State.source_setSource_self]
    exact (DriveWork.clear n _ hlatched hcleared (.inl rfl)).works

end Sys2Proof.Machine
end

section
/-! Every command but a reset and a period boundary is a sequence of works on the blocks: the converter, the counting
units, the pulse unit, the requests and the link. -/

namespace Sys2Proof.Machine

open Relation (ReflTransGen)

/-! ## The converter and the moments of the anchors -/

theorem writeRound_works (s : State) (dest : Option RingId) (e : RingEntry) : Works s (s.writeRound dest e) := by
  cases dest with
  | none => exact .refl
  | some n => exact (Work.ringWrite n e).works

theorem deliverRound_works (s : State) (dest : Option Feedback) (values : List Count) :
    Works s (s.deliverRound dest values) := by
  cases dest with
  | none => exact .refl
  | some f => exact (DriveWork.deliver f.channel _).works

theorem windowCheck_works (s : State) (x : SlotId) (win : Option Window) (values : List Count) :
    Works s (s.windowCheck x win values) := by
  cases win with
  | none => exact .refl
  | some w =>
    refine works_ite (fun _ => .refl) (fun _ => ReflTransGen.trans (post_works s .window x.val ((values.getD w.element 0).setWidth 16)) ?_)
    exact works_ite (fun _ => internalCondition_works _ _) (fun _ => .refl)

/-- A firing dispatches nothing while the converter converts. -/
theorem State.conv_fire_of_converting {s : State} (a : AnchorId) (h : s.conv.isSome = true) :
    (s.fire a).conv = s.conv := by
  rw [State.fire, State.settle_of_converting _ (by simpa using h)]
  simp

theorem State.conv_tripOptions_of_converting {s : State} (e g : Bool) (h : s.conv.isSome = true) :
    (s.tripOptions e g).conv = s.conv := by
  cases e <;> cases g <;> simp [State.tripOptions, State.conv_fire_of_converting, h]

theorem State.conv_internalCondition_of_converting {s : State} (n : SourceId) (h : s.conv.isSome = true) :
    (s.internalCondition n).conv = s.conv := by
  simp only [State.internalCondition]
  repeat' split
  · rfl
  · simp [State.tripInternal, State.tripWork, State.conv_tripOptions_of_converting, h]
  · simp
  · rfl

theorem State.conv_windowCheck_of_converting {s : State} (x : SlotId) (win : Option Window) (values : List Count)
    (h : s.conv.isSome = true) : (s.windowCheck x win values).conv = s.conv := by
  simp only [State.windowCheck]
  repeat' split
  · rfl
  · rfl
  · simp [State.conv_internalCondition_of_converting, h]
  · simp

theorem completeRound_works {s : State} {x : SlotId} (values : List Count)
    (h : s.conv.map (fun v => v.slot) = some x) : Works s (s.completeRound x values) := by
  have hsome : s.conv.isSome = true := by
    cases hc : s.conv <;> simp_all
  refine ReflTransGen.trans ?_ (settle_works _)
  refine (((writeRound_works s _ _).trans (deliverRound_works _ _ values)).trans
    (windowCheck_works _ x _ values)).trans (AcqWork.closeRound x ?_).works
  rw [State.conv_windowCheck_of_converting _ _ _ (by simpa using hsome)]
  simpa using h

theorem yieldSlot_works {s : State} {x : SlotId} (h : s.conv.map (fun v => v.slot) = some x) :
    Works s (s.yieldSlot x) :=
  (AcqWork.yieldSlot x h).works.trans (settle_works _)

theorem cancelledCompletion_works {s : State} {x : SlotId} (h : s.conv.map (fun v => v.slot) = some x) :
    Works s (s.cancelledCompletion x) :=
  (AcqWork.cancelled x h).works.trans (settle_works _)

theorem elementDone_works {s : State} {x : SlotId} (value : Count) (h : s.conv.map (fun v => v.slot) = some x) :
    Works s (s.elementDone x value) := by
  refine works_ite (fun _ => completeRound_works _ h) (fun hmore => ?_)
  refine (AcqWork.store x value h (by omega)).works.trans ?_
  exact works_ite (fun _ => yieldSlot_works (by simpa using h)) (fun _ => (AcqWork.nextElement x (by simpa using h)).works)

theorem completeConversion_works (s : State) (value : Count) : Works s (s.completeConversion value) := by
  unfold State.completeConversion
  split
  · exact .refl
  · next cv hcv =>
    have hslot : s.conv.map (fun v => v.slot) = some cv.slot := by simp [hcv]
    exact works_ite (fun _ => cancelledCompletion_works hslot) (fun _ => elementDone_works value hslot)

theorem expireWait_works (s : State) (x : SlotId) : Works s (s.expireWait x) :=
  works_ite (fun _ => (AcqWork.flag x true (s.slot x).cancel).works) (fun _ => .refl)

theorem centreCount_works (s : State) (c : ChanId) (n : Nat) :
    Works s (s.setChan c { s.chan c with centreCount := n }) :=
  (DriveWork.mark c { s.chan c with centreCount := n } rfl).works

theorem fireCentre_works (s : State) (c : ChanId) : Works s (s.fireCentre c) :=
  (centreCount_works s c 0).trans (fire_works _ _)

theorem midpoint_works (s : State) (c : ChanId) : Works s (s.midpoint c) :=
  works_ite (fun _ => .refl)
    (fun _ => works_ite (fun _ => fireCentre_works s c) (fun _ => centreCount_works s c _))

theorem fireCadence_works (s : State) (k : Fin 4) : Works s (s.fireCadence k) := by
  refine works_ite (fun _ => ReflTransGen.trans ?_ (fire_works _ _)) (fun _ => .refl)
  exact State.SameBlocks.works (by constructor <;> simp)

/-! ## The counting units -/

theorem wrapTally_works (s : State) (u : UnitId) (wrapped : Bool) : Works s (s.wrapTally u wrapped) :=
  works_ite (fun _ => (post_works s _ _ _).trans (fire_works _ _)) (fun _ => .refl)

theorem countEdge_works (s : State) (u : UnitId) (up : Bool) : Works s (s.countEdge u up) :=
  (DriveWork.count u up).works.trans (wrapTally_works _ _ _)

theorem takePair_works (s : State) (d : Fin 2) (p : LinePair) : Works s (s.takePair d p) :=
  State.SameBlocks.works (by constructor <;> simp)

theorem illegalStep_works (s : State) (d : Fin 2) : Works s (s.illegalStep d) :=
  State.SameBlocks.works (by constructor <;> simp)

theorem decode_works (s : State) (d : Fin 2) (p : LinePair) : Works s (s.decode d p) :=
  works_ite (fun _ => .refl) fun _ =>
    works_ite (fun _ => (takePair_works s d p).trans (countEdge_works _ _ _)) fun _ =>
      works_ite (fun _ => (takePair_works s d p).trans (countEdge_works _ _ _)) fun _ =>
        (takePair_works s d p).trans (illegalStep_works _ _)

theorem setLines_works (s : State) (d : Fin 2) (p : LinePair) : Works s (s.setLines d p) :=
  State.SameBlocks.works (by constructor <;> simp)

theorem quadrature_works (s : State) (d : Fin 2) (p : LinePair) : Works s (s.quadrature d p) :=
  (setLines_works s d p).trans (decode_works _ d p)

theorem wrappingEdge_works (s : State) (u : UnitId) (up : Bool) : Works s (s.wrappingEdge u up) := by
  refine works_ite (fun _ => .refl) (fun _ => ?_)
  split
  · exact quadrature_works s 0 _
  · exact quadrature_works s 1 _
  · exact works_ite (fun _ => countEdge_works s 2 true) (fun _ => .refl)

theorem expireGrace_works (s : State) (u : UnitId) : Works s (s.expireGrace u) :=
  works_ite (fun h => (DriveWork.armUnit u h).works) (fun _ => .refl)

theorem detectStall_works (s : State) (u : UnitId) : Works s (s.detectStall u) :=
  works_ite
    (fun _ => ((post_works s _ _ _).trans (internalCondition_works _ _)).trans (DriveWork.disarm u).works)
    (fun _ => .refl)

theorem writeCounter_works (s : State) (u : UnitId) (w : CounterWrite) : Works s (s.writeCounter u w) :=
  (DriveWork.writeUnit u w).works.trans (works_ite (fun _ => expireGrace_works _ u) (fun _ => .refl))

/-! ## The pulse unit -/

theorem onEnabled_works {work : State → ChanId → State}
    (h : ∀ s c, (s.chan c).state ≠ .off → Works s (work s c)) (s : State) : Works s (s.onEnabled work) :=
  works_foldl (fun s c => works_ite (fun _ => .refl) (h s c)) allChans s

theorem stopEnabled_works (s : State) (brake : Bool) : Works s (s.onEnabled (State.stopChannel brake)) :=
  onEnabled_works (fun _ c hc => (DriveWork.stop brake c hc).works) s

/-- STOP-ALL without BRAKE zeroes a channel as a link break does. -/
theorem stopChannel_false : State.stopChannel false = State.zeroDrive := rfl

theorem stopAll_works (s : State) (brake : Bool) : Works s (s.stopAll brake) :=
  (stopEnabled_works s brake).trans (advanceEpoch_works _)

theorem restartHold_works (s : State) (g : HoldGroup) : Works s (s.restartHold g) := setHold_works _ _ _

theorem applyDrive_works {s : State} {d : DriveRequest} (hoff : s.driveNamesOff d = false)
    (hguarded : s.driveGuarded d = false) : Works s (s.applyDrive d) := by
  refine (DriveWork.drive d hoff hguarded).works.trans ?_
  refine ReflTransGen.trans (b := if d.namesGroup .motion then (s.setTargets d).restartHold .motion else s.setTargets d)
    (works_ite (fun _ => restartHold_works _ _) (fun _ => .refl)) ?_
  exact works_ite (fun _ => restartHold_works _ _) (fun _ => .refl)

theorem stopMotion_works (s : State) : Works s s.stopMotion :=
  onEnabled_works (fun _ c _ => works_ite (fun _ => (DriveWork.dropTarget c).works) (fun _ => .refl)) s

theorem stopBlade_works (s : State) : Works s s.stopBlade :=
  works_ite (fun _ => .refl) (fun h => (DriveWork.stop true 2 h).works)

theorem expireHold_works (s : State) (g : HoldGroup) : Works s (s.expireHold g) := by
  cases g with
  | motion => exact ((stopMotion_works s).trans (advanceEpoch_works _)).trans (post_works _ _ _ _)
  | blade => exact ((stopBlade_works s).trans (advanceEpoch_works _)).trans (post_works _ _ _ _)

theorem countHold_works (s : State) (g : HoldGroup) (moving : Bool) : Works s (s.countHold g moving) :=
  works_ite (fun _ => setHold_works _ _ _) (fun _ => .refl)

theorem expireHolds_works (s : State) (motion blade : Bool) : Works s (s.expireHolds motion blade) := by
  have hdrawn : Works s { s with drawn := s.drawn + 1 } := State.SameBlocks.works (by constructor <;> rfl)
  cases motion <;> cases blade
  · exact .refl
  · exact expireHold_works s .blade
  · exact expireHold_works s .motion
  · exact hdrawn.trans (works_ite (fun _ => (expireHold_works _ .motion).trans (expireHold_works _ .blade))
      (fun _ => (expireHold_works _ .blade).trans (expireHold_works _ .motion)))

theorem rampTick_works (s : State) : Works s s.rampTick :=
  (((works_foldl (fun _ c => (DriveWork.ramp c).works) allChans s).trans (countHold_works _ _ _)).trans
    (countHold_works _ _ _)).trans (expireHolds_works _ _ _)

theorem holdRunsOut_works (s : State) (g : HoldGroup) : Works s (s.holdRunsOut g) :=
  works_ite (fun _ => (countHold_works s g true).trans (expireHold_works _ g)) (fun _ => .refl)

end Sys2Proof.Machine
end

section
/-! Every command but a reset and a period boundary is a sequence of works on the blocks: the requests, the link and the
tick; and with that what a step keeps. -/

namespace Sys2Proof.Machine

open Relation (ReflTransGen)

/-! ## Marks on every channel -/

/-- A function of a channel is applied to every channel, one after another. -/
theorem mapChans_eq_foldl (s : State) (f : Channel → Channel) :
    { s with chans := s.chans.map f } = allChans.foldl (fun s c => s.setChan c (f (s.chan c))) s := by
  have hchans : s.chans.map f = (allChans.foldl (fun s c => s.setChan c (f (s.chan c))) s).chans := by
    ext i hi
    obtain rfl | rfl | rfl | rfl : i = 0 ∨ i = 1 ∨ i = 2 ∨ i = 3 := by omega
    all_goals simp [allChans, State.setChan, State.chan, Table.put, Vector.get_eq_getElem]
  rw [hchans]
  rfl

theorem mapChans_works (s : State) {f : Channel → Channel} (h : ∀ v, (f v).SameButMarks v) :
    Works s { s with chans := s.chans.map f } := by
  rw [mapChans_eq_foldl]
  exact works_foldl (fun s c => (DriveWork.mark c _ (h _)).works) allChans s

theorem clearReportedFlags_works (s : State) : Works s s.clearReportedFlags :=
  (mapChans_works s (f := Channel.clearFlags) (fun _ => rfl)).trans (State.SameBlocks.works (by constructor <;> rfl))

/-! ## The requests -/

theorem elementsAt_length {p : List Byte} {offset n : Nat} {l : List (Fin 12)} (h : elementsAt p offset n = some l) :
    l.length = n := by
  induction n generalizing offset l with
  | zero => simp_all [elementsAt]
  | succ n ih =>
    simp only [elementsAt, Option.bind_eq_bind, Option.bind_eq_some_iff, Option.pure_def, Option.some.injEq] at h
    obtain ⟨e, -, rest, hrest, rfl⟩ := h
    simp [ih hrest]

theorem inRange_eq_some {low high n m : Nat} : inRange low high n = some m ↔ m = n ∧ low ≤ n ∧ n ≤ high := by
  unfold inRange
  split
  · next h => simp [h, eq_comm]
  · next h => simp only [reduceCtorEq, false_iff]; rintro ⟨rfl, hm⟩; exact h hm

/-- A definition that passes its check has an element (R8, R176). -/
theorem Definition.elements_ne_nil_of_ofPayload {p : List Byte} {d : Definition}
    (h : Definition.ofPayload p = some d) : d.elements ≠ [] := by
  unfold Definition.ofPayload at h
  split at h
  · cases h
  · simp only [Option.bind_eq_bind, Option.bind_eq_some_iff] at h
    obtain ⟨level, -, anchor, -, waitLimit, -, ring, -, count, hcount, elements, helements, feedback, -, window, -, h⟩ := h
    obtain ⟨rfl, hmin, -⟩ := inRange_eq_some.mp hcount
    split at h
    · cases h
      rintro (rfl : elements = [])
      have hlength := elementsAt_length helements
      simp only [List.length_nil] at hlength
      omega
    · cases h

theorem defineAcq_works (p : List Byte) (s : State) : Works s (takeDefineAcq p s).state := by
  unfold takeDefineAcq
  repeat' split
  · exact .refl
  · exact .refl
  · exact .refl
  · next hfree _ d hd =>
    exact (AcqWork.define _ d (by simpa using hfree) (Definition.elements_ne_nil_of_ofPayload hd)).works

theorem armAcq_works (p : List Byte) (s : State) : Works s (takeArmAcq p s).state := by
  unfold takeArmAcq
  repeat' split
  · exact .refl
  · next hidle => exact (AcqWork.arm _ hidle).works.trans (dispatch_works _)
  · exact .refl

theorem cancelSlot_works (s : State) (x : SlotId) : Works s (s.cancelSlot x) := by
  unfold State.cancelSlot
  split
  · exact (AcqWork.leaveWait x ‹_›).works
  · exact (AcqWork.leaveReady x ‹_›).works.trans (dispatch_works _)
  · exact (AcqWork.flag x (s.slot x).late true).works
  · exact .refl

theorem cancelAcq_works (p : List Byte) (s : State) : Works s (takeCancelAcq p s).state := by
  unfold takeCancelAcq
  repeat' split
  · exact .refl
  · exact .refl
  · exact cancelSlot_works s _

theorem releaseAcq_works (p : List Byte) (s : State) : Works s (takeReleaseAcq p s).state := by
  unfold takeReleaseAcq
  repeat' split
  · exact .refl
  · exact (AcqWork.free _ ‹_›).works
  · exact .refl

theorem writeDivider_works (s : State) (a : AnchorId) (divider : Option Nat) : Works s (s.writeDivider a divider) := by
  unfold State.writeDivider
  split
  · next c d _ => exact (DriveWork.mark c { s.chan c with divider := d, centreCount := 0 } rfl).works
  · exact .refl

theorem writePeriod_works (s : State) (a : AnchorId) (period : Option Nat) : Works s (s.writePeriod a period) :=
  State.SameBlocks.works (by constructor <;> simp)

theorem setAnchor_works (p : List Byte) (s : State) : Works s (takeSetAnchor p s).state := by
  unfold takeSetAnchor
  repeat' split
  · exact .refl
  · exact .refl
  · exact ((AcqWork.writeAnchor _ _).works.trans (writeDivider_works _ _ _)).trans (writePeriod_works _ _ _)

theorem setRing_works (p : List Byte) (s : State) : Works s (takeSetRing p s).state := by
  unfold takeSetRing
  repeat' split
  · exact .refl
  · refine (Work.setRing _ _ ?_).works
    exact le_refl _
  · exact .refl

theorem readRing_works (p : List Byte) (s : State) : Works s (takeReadRing p s).state := by
  unfold takeReadRing
  repeat' split
  · exact .refl
  · exact .refl
  · exact (Work.setRing _ _ (by simp [Ring.readOut])).works

theorem setGuard_works (p : List Byte) (s : State) : Works s (takeSetGuard p s).state := by
  unfold takeSetGuard
  repeat' split
  · exact .refl
  · exact .refl
  · exact .refl
  · next hacting _ w _ => exact writeGuard_works w (by simpa using hacting)

theorem clearTripRequest_works (p : List Byte) (s : State) : Works s (takeClearTrip p s).state := by
  unfold takeClearTrip
  repeat' split
  · exact .refl
  · exact .refl
  · exact clearTrip_works s _

theorem setCounter_works (p : List Byte) (s : State) : Works s (takeSetCounter p s).state := by
  unfold takeSetCounter
  repeat' split
  · exact .refl
  · exact .refl
  · exact writeCounter_works s _ _

theorem setChannel_works (p : List Byte) (s : State) : Works s (takeSetChannel p s).state := by
  unfold takeSetChannel
  repeat' split
  · exact .refl
  · exact .refl
  · exact (DriveWork.writeChannel _ _).works

theorem driveRequest_works (p : List Byte) (s : State) : Works s (takeDrive p s).state := by
  unfold takeDrive
  dsimp only
  split
  · exact .refl
  split
  · exact .refl
  split
  · exact .refl
  · next hoff hguarded => exact applyDrive_works (by simpa using hoff) (by simpa using hguarded)

theorem stopAllRequest_works (p : List Byte) (s : State) : Works s (takeStopAll p s).state := by
  unfold takeStopAll
  split
  · exact .refl
  · exact stopAll_works s _

theorem setProfile_works (p : List Byte) (s : State) : Works s (takeSetProfile p s).state := by
  unfold takeSetProfile
  repeat' split
  · exact .refl
  · exact (DriveWork.writeProfile _ _ _).works
  · exact .refl

theorem selectProfileRequest_works (p : List Byte) (s : State) : Works s (takeSelectProfile p s).state := by
  unfold takeSelectProfile
  split
  · exact .refl
  · dsimp only
    exact (DriveWork.selectProfile _).works

theorem snapshot_state (p : List Byte) (s : State) : (takeSnapshot p s).state = s := by
  unfold takeSnapshot
  split <;> rfl

/-- What a request leaves is a sequence of works. -/
theorem take_works (k : RequestKind) (p : List Byte) (s : State) : Works s (k.take p s).state := by
  cases k with
  | ping => exact .refl
  | status => exact clearReportedFlags_works s
  | restart => exact State.SameBlocks.works (by constructor <;> rfl)
  | setChannel => exact setChannel_works p s
  | drive => exact driveRequest_works p s
  | stopAll => exact stopAllRequest_works p s
  | setProfile => exact setProfile_works p s
  | selectProfile => exact selectProfileRequest_works p s
  | snapshot => rw [RequestKind.take, snapshot_state]
  | defineAcq => exact defineAcq_works p s
  | armAcq => exact armAcq_works p s
  | cancelAcq => exact cancelAcq_works p s
  | releaseAcq => exact releaseAcq_works p s
  | setAnchor => exact setAnchor_works p s
  | setRing => exact setRing_works p s
  | readRing => exact readRing_works p s
  | setGuard => exact setGuard_works p s
  | clearTrip => exact clearTripRequest_works p s
  | setCounter => exact setCounter_works p s
  | readCounters => exact .refl

theorem answer_works (r : Request) (s : State) : Works s (r.answer s).state := by
  unfold Request.answer
  repeat' split
  · exact .refl
  · exact take_works _ _ s
  · exact .refl

/-! ## The link -/

theorem pushReply_works (s : State) (r : Reply) : Works s (s.pushReply r) :=
  State.SameBlocks.works (by constructor <;> simp)

theorem requestTaken_works (s : State) (r : Request) : Works s (s.take r) :=
  (answer_works r s).trans (pushReply_works _ _)

theorem takeChain_works (n : Nat) (s : State) : Works s (State.takeChain n s) := by
  induction n generalizing s with
  | zero => exact .refl
  | succ n ih =>
    unfold State.takeChain
    split
    · exact .refl
    · exact works_ite (fun _ => ((setRequests_works s _).trans (requestTaken_works _ _)).trans (ih _)) (fun _ => .refl)

theorem takeAll_works (s : State) : Works s s.takeAll := takeChain_works _ s

theorem join_works {taking : State → State} (h : ∀ s, Works s (taking s)) (s : State) (r : Request) :
    Works s (s.join r taking) :=
  works_ite (fun _ => setLinkError_works s) (fun _ => (setRequests_works s _).trans (h _))

theorem enqueue_works (s : State) (r : Request) : Works s (s.enqueue r) := join_works takeAll_works s r

theorem seeHigh_works (s : State) : Works s s.seeHigh := State.SameBlocks.works (by constructor <;> simp)

theorem hear_works {work : State → State} (h : ∀ s, Works s (work s)) (s : State) : Works s (s.hear work) :=
  works_ite (fun _ => (seeHigh_works s).trans (h s.seeHigh)) (fun _ => .refl)

theorem dropFrame_works (s : State) : Works s s.dropFrame := State.SameBlocks.works (by constructor <;> simp)

theorem completeFrame_works (s : State) (bytes : List Byte) : Works s (s.completeFrame bytes) := by
  unfold State.completeFrame
  split
  · exact dropFrame_works s
  · exact works_ite (fun _ => (setReceiver_works s _).trans (join_works (fun _ => .refl) _ _))
      (fun _ => (setReceiver_works s _).trans (enqueue_works _ _))

theorem takeByte_works (s : State) (b : Byte) : Works s (s.takeByte b) := by
  unfold State.takeByte
  split
  · exact works_ite (fun _ => setReceiver_works s _) (fun _ => .refl)
  · unfold State.frameByte
    split
    · exact setReceiver_works s _
    · exact works_ite (fun _ => dropFrame_works s) fun _ =>
        works_ite (fun _ => completeFrame_works s _) (fun _ => setReceiver_works s _)

theorem gapTimeout_works (s : State) : Works s s.gapTimeout := State.SameBlocks.works (by constructor <;> simp)

theorem lineLow_works (s : State) : Works s s.lineLow := State.SameBlocks.works (by constructor <;> simp)

theorem breakLink_works (s : State) : Works s s.breakLink := by
  have hdiscard : Works s s.discardInput := State.SameBlocks.works (by constructor <;> simp)
  exact ((hdiscard.trans (stopEnabled_works _ false)).trans (advanceEpoch_works _)).trans (post_works _ _ _ _)

theorem rxdLow20_works (s : State) : Works s s.rxdLow20 :=
  works_ite (fun _ => (breakLink_works s).trans (lineLow_works _)) (fun _ => lineLow_works s)

theorem transmitterFree_works (s : State) : Works s s.transmitterFree :=
  ReflTransGen.trans (State.SameBlocks.works (by constructor <;> rfl)) (takeAll_works s.freeTransmitter)

theorem frameEnds_works {s : State} (h : s.restartReplyEnds = false) : Works s s.frameEnds := by
  unfold State.frameEnds
  split
  · exact .refl
  · simpa [h] using transmitterFree_works s

/-! ## Commands and the tick -/

theorem live_works {s t : State} (h : s.pins.nrst = true → Works s t) : Works s (if s.pins.nrst then t else s) :=
  works_ite h (fun _ => .refl)

theorem arrive_works (s : State) (r : Request) : Works s (s.arrive r) :=
  hear_works (fun s => enqueue_works s r) s

/-- A command that is no reset and no period boundary is a sequence of works. -/
theorem effect_works {c : Instr} {s : State} (hreset : s.resets c = false) (hboundary : ∀ ch, c ≠ .periodBoundary ch) :
    Works s (effect c s) := by
  cases c with
  | ping tag p | status tag p | restart tag p | setChannel tag p | drive tag p | stopAll tag p | setProfile tag p
  | selectProfile tag p | snapshot tag p | defineAcq tag p | armAcq tag p | cancelAcq tag p | releaseAcq tag p
  | setAnchor tag p | setRing tag p | readRing tag p | setGuard tag p | clearTrip tag p | setCounter tag p
  | readCounters tag p | unknownKind tag kind p => exact live_works fun _ => arrive_works s _
  | frameReceived bytes => exact live_works fun _ => hear_works (fun s => completeFrame_works s bytes) s
  | interByteGapTimeout => exact live_works fun _ => gapTimeout_works s
  | framingError => exact live_works fun _ => hear_works dropFrame_works s
  | linkBreak => exact works_ite (fun _ => rxdLow20_works s) (fun _ => State.SameBlocks.works (by constructor <;> simp))
  | frameTransmitted => exact live_works fun hlive => frameEnds_works (by simpa [State.resets, hlive] using hreset)
  | restartReset =>
    refine live_works fun hlive => ?_
    have hends : s.restartReplyEnds = false := by simpa [State.resets, hlive] using hreset
    simpa [hends] using ReflTransGen.refl
  | powerOn => simp [State.resets] at hreset
  | nrstAssert =>
    have hlow : s.pins.nrst = false := by simpa [State.resets] using hreset
    exact State.SameBlocks.works (by simp [effect, exec, execNrstAssert, State.assertNrst, hlow]; constructor <;> rfl)
  | nrstRelease =>
    have hhigh : s.pins.nrst = true := by simpa [State.resets] using hreset
    exact State.SameBlocks.works (by simp [effect, exec, execNrstRelease, State.releaseNrst, hhigh]; constructor <;> rfl)
  | rampTick => exact live_works fun _ => rampTick_works s
  | holdExpiry g => exact live_works fun _ => holdRunsOut_works s g
  | periodBoundary ch => exact absurd rfl (hboundary ch)
  | periodMidpoint ch => exact live_works fun _ => midpoint_works s ch
  | centreAnchorFire ch => exact live_works fun _ => works_ite (fun _ => fireCentre_works s ch) (fun _ => .refl)
  | cadenceAnchorFire k => exact live_works fun _ => fireCadence_works s k
  | conversionComplete value => exact live_works fun _ => completeConversion_works s value
  | waitLimitExpiry x => exact live_works fun _ => expireWait_works s x
  | guardPinAssert p => exact works_ite (fun _ => assertPin_works s p) (fun _ => setGin_works s p _)
  | guardPinDeassert p => exact works_ite (fun _ => deassertPin_works s p) (fun _ => setGin_works s p _)
  | qualificationExpiry p => exact live_works fun _ => expireQualification_works s p
  | quadratureStep d a b => exact works_ite (fun _ => quadrature_works s d _) (fun _ => setLines_works s d _)
  | tachEdge => exact live_works fun _ => countEdge_works s 2 true
  | tallyWrap u up => exact live_works fun _ => wrappingEdge_works s u up
  | graceExpiry u => exact live_works fun _ => expireGrace_works s u
  | stall u => exact live_works fun _ => detectStall_works s u
  | byteReceived b => exact live_works fun _ => hear_works (fun s => takeByte_works s b) s
  | rxdReturnsHigh => exact State.SameBlocks.works (by simp [effect, exec, execRxdReturnsHigh]; split <;> constructor <;> simp)

theorem tick_works (s : State) : Works s s.tick :=
  works_ite (fun _ => Work.time.works.trans (State.SameBlocks.works (by constructor <;> rfl)))
    (fun _ => State.SameBlocks.works (by constructor <;> rfl))

/-- A command that resets the part leaves the blocks at their reset values. -/
theorem effect_of_resets {c : Instr} {s : State} (h : s.resets c = true) : State.reset.SameBlocks (effect c s) := by
  have hreset (u : State) (cause : ReadyCause) (ticks : Nat) : State.reset.SameBlocks (u.resetBy cause ticks) := by
    constructor <;> rfl
  suffices ∃ u cause ticks, effect c s = State.resetBy u cause ticks by
    obtain ⟨u, cause, ticks, heq⟩ := this
    exact heq ▸ hreset u cause ticks
  cases c with
  | powerOn => exact ⟨_, _, _, rfl⟩
  | nrstAssert =>
    have hhigh : s.pins.nrst = true := h
    exact ⟨s.setNrst false, .pin, s.clock.rampTicks, by simp [effect, exec, execNrstAssert, State.assertNrst, hhigh]⟩
  | nrstRelease =>
    have hlow : s.pins.nrst = false := by simpa [State.resets] using h
    exact ⟨s.setNrst true, .pin, s.clock.rampTicks, by simp [effect, exec, execNrstRelease, State.releaseNrst, hlow]⟩
  | frameTransmitted =>
    obtain ⟨hlive, hends⟩ : s.pins.nrst = true ∧ s.restartReplyEnds = true := by simpa [State.resets] using h
    have hframe : s.frameEnds = s.restartReset := by
      unfold State.frameEnds
      split
      · next hnone => simp [State.restartReplyEnds, hnone] at hends
      · rw [if_pos hends]
    exact ⟨s, .restart, s.clock.rampTicks,
      by simp [effect, exec, execFrameTransmitted, State.live, hlive, hframe, State.restartReset]⟩
  | restartReset =>
    obtain ⟨hlive, hends⟩ : s.pins.nrst = true ∧ s.restartReplyEnds = true := by simpa [State.resets] using h
    exact ⟨s, .restart, s.clock.rampTicks,
      by simp [effect, exec, execRestartReset, State.live, hlive, hends, State.restartReset]⟩
  | _ => cases h

theorem effect_periodBoundary (ch : ChanId) (s : State) :
    effect (.periodBoundary ch) s = if s.pins.nrst then s.boundary ch else s := rfl

/-- What every work, every period boundary and every reset keeps, every step keeps. -/
theorem step_keeps {P : State → Prop} (hwork : ∀ {s t}, Work s t → P s → P t)
    (hboundary : ∀ {s} (ch : ChanId), (s.chan ch).state ≠ .off → P s → P (s.boundary ch)) (hreset : P State.reset)
    {s t : State} (h : step s = .next t) (hs : P s) : P t := by
  have hworks : ∀ {s t}, Works s t → P s → P t := by
    intro s t hst hs
    induction hst with
    | refl => exact hs
    | tail _ hlast ih => exact hwork hlast ih
  obtain ⟨-, rfl⟩ | ⟨c, rest, -, rfl⟩ := step_cases h
  · exact hworks (tick_works s) hs
  have hs' : P (s.withRest rest) := hworks (withRest_works s rest) hs
  by_cases hc : (s.withRest rest).resets c = true
  · exact hwork (.elsewhere (effect_of_resets hc)) hreset
  by_cases hb : ∃ ch, c = .periodBoundary ch
  · obtain ⟨ch, rfl⟩ := hb
    rw [effect_periodBoundary]
    split
    · by_cases hoff : ((s.withRest rest).chan ch).state = .off
      · simpa [State.boundary, hoff] using hs'
      · exact hboundary ch hoff hs'
    · exact hs'
  · exact hworks (effect_works (by simpa using hc) (fun ch e => hb ⟨ch, e⟩)) hs'

end Sys2Proof.Machine
end

section
/-! The laws of the bank and of the rings (R37, R67), and the frames of the two families of works. -/

namespace Sys2Proof.Machine

/-! ## What each family of works leaves as it was -/

theorem AcqWork.frame {s t : State} (h : AcqWork s t) :
    t.rings = s.rings ∧ t.chans = s.chans ∧ t.profiles = s.profiles ∧ t.activeProfile = s.activeProfile ∧
    t.sources = s.sources ∧ t.counters = s.counters := by
  cases h <;> simp

theorem DriveWork.frame {s t : State} (h : DriveWork s t) :
    t.slots = s.slots ∧ t.anchors = s.anchors ∧ t.ready = s.ready ∧ t.conv = s.conv ∧ t.rings = s.rings := by
  cases h <;> simp

/-! ## The bank (R37) -/

/-- The law of R37 at one anchor. -/
def Anchor.bankOk (an : Anchor) : Prop := an.bank ≤ 3 ∧ (0 < an.bank → an.mode = .one ∧ an.waitList = [])

theorem State.bankLaw_iff (s : State) : s.bankLaw ↔ ∀ a, (s.anchor a).bankOk := Iff.rfl

theorem State.bankLaw_of_anchors_eq {s t : State} (h : t.anchors = s.anchors) (hs : s.bankLaw) : t.bankLaw := by
  simpa only [State.bankLaw, State.anchor, h] using hs

theorem State.bankLaw_setAnchor {s : State} {a : AnchorId} {an : Anchor} (hs : s.bankLaw) (h : an.bankOk) :
    (s.setAnchor a an).bankLaw := by
  intro b
  rw [State.anchor_setAnchor]
  split
  · exact h
  · exact hs b

theorem Anchor.bankOk_of_bank_eq_zero {an : Anchor} (h : an.bank = 0) : an.bankOk := by
  simp [Anchor.bankOk, h]

/-- A slot that takes a banked firing leaves fewer; one that waits has found no bank to take from (R38). -/
theorem State.bankLaw_arm {s : State} (hs : s.bankLaw) (x : SlotId) (a : AnchorId) : (s.arm x a).bankLaw := by
  obtain ⟨hbound, hmode⟩ := hs a
  unfold State.arm
  dsimp only
  split
  · next htake =>
    have hlower : ({ s.anchor a with bank := (s.anchor a).bank - 1 } : Anchor).bankOk :=
      ⟨by dsimp only; omega, fun _ => hmode htake.2⟩
    exact State.bankLaw_of_anchors_eq (by simp) (State.bankLaw_setAnchor (a := a) hs hlower)
  · next hwait =>
    have hzero : (s.anchor a).bank = 0 := by
      by_contra hpos
      exact hwait ⟨(hmode (by omega)).1, by omega⟩
    have hjoin (l : List SlotId) : ({ s.anchor a with waitList := l } : Anchor).bankOk :=
      Anchor.bankOk_of_bank_eq_zero hzero
    exact State.bankLaw_of_anchors_eq (by simp) (State.bankLaw_setAnchor (a := a) hs
      (hjoin (joinWait (fun y => (s.slot y).defn.level) x (s.anchor a).waitList)))

theorem State.bankLaw_rearm {s : State} (hs : s.bankLaw) (x : SlotId) : (s.rearm x).bankLaw := by
  unfold State.rearm
  split
  · exact State.bankLaw_arm hs x _
  · exact State.bankLaw_of_anchors_eq (by simp) hs

theorem State.bankLaw_finishRound {s : State} (hs : s.bankLaw) (x : SlotId) : (s.finishRound x).bankLaw := by
  have hclosed : (s.setSlot x (s.slot x).closed).bankLaw := State.bankLaw_of_anchors_eq (by simp) hs
  unfold State.finishRound State.completionPath
  split
  · exact State.bankLaw_of_anchors_eq (by simp) hclosed
  split
  · exact State.bankLaw_rearm hclosed x
  split
  · exact State.bankLaw_of_anchors_eq (by simp) hclosed
  · exact State.bankLaw_rearm (State.bankLaw_of_anchors_eq (by simp) hclosed) x

theorem State.bankLaw_finishMissed {s : State} (hs : s.bankLaw) (x : SlotId) : (s.finishMissed x).bankLaw :=
  State.bankLaw_finishRound (State.bankLaw_of_anchors_eq (by simp) hs) x

theorem Anchor.bankOk_fired {an : Anchor} (h : an.bankOk) : an.fired.bankOk := by
  obtain ⟨hbound, hmode⟩ := h
  by_cases hone : an.mode = .one ∧ an.waitList = []
  · simp [Anchor.bankOk, Anchor.fired, hone]
  · have hzero : an.bank = 0 := by
      by_contra hpos
      exact hone (hmode (by omega))
    exact Anchor.bankOk_of_bank_eq_zero (by simp [Anchor.fired, hone, hzero])

theorem Anchor.bankOk_written {an : Anchor} (h : an.bankOk) (w : AnchorWrite) : (an.written w).bankOk := by
  obtain ⟨hbound, hmode⟩ := h
  by_cases hall : w.mode = some .all
  · exact Anchor.bankOk_of_bank_eq_zero (by simp [Anchor.written, hall])
  · refine ⟨by simpa [Anchor.written, hall] using hbound, fun hpos => ?_⟩
    have hpos' : 0 < an.bank := by simpa [Anchor.written, hall] using hpos
    obtain ⟨hone, hempty⟩ := hmode hpos'
    refine ⟨?_, hempty⟩
    cases hw : w.mode with
    | none => simp [Anchor.written, hw, hone]
    | some m => cases m <;> simp_all [Anchor.written]

theorem State.bankLaw_acqWork {s t : State} (h : AcqWork s t) (hs : s.bankLaw) : t.bankLaw := by
  cases h with
  | define x d | free x | leaveReady x | flag x | start l x rest | store x | nextElement x | yieldSlot x | cancelled x =>
    exact State.bankLaw_of_anchors_eq (by simp) hs
  | arm x =>
    have hloaded : (s.setSlot x (s.slot x).loaded).bankLaw := State.bankLaw_of_anchors_eq (by simp) hs
    unfold State.armSlot State.placeArmed
    split
    · exact State.bankLaw_of_anchors_eq (by simp) hloaded
    · exact State.bankLaw_arm hloaded x _
  | leaveWait x =>
    refine State.bankLaw_of_anchors_eq (s := s.leaveWait x) (by simp) ?_
    unfold State.leaveWait
    split
    · exact hs
    · next a _ =>
      obtain ⟨hbound, hmode⟩ := hs a
      exact State.bankLaw_setAnchor hs ⟨hbound, fun hpos => by simp [hmode hpos]⟩
  | writeAnchor a w => exact State.bankLaw_setAnchor hs (Anchor.bankOk_written (hs a) w)
  | fireAnchor a =>
    intro b
    rw [State.anchor_fireAnchor]
    split
    · exact Anchor.bankOk_fired (hs a)
    · exact hs b
  | closeRound x => exact State.bankLaw_of_anchors_eq (by simp) (State.bankLaw_finishRound hs x)

theorem State.bankLaw_work {s t : State} (h : Work s t) (hs : s.bankLaw) : t.bankLaw := by
  cases h with
  | elsewhere h => exact State.bankLaw_of_anchors_eq h.anchors hs
  | acq h => exact State.bankLaw_acqWork h hs
  | drive h => exact State.bankLaw_of_anchors_eq h.frame.2.1 hs
  | missed l x rest => exact State.bankLaw_finishMissed (State.bankLaw_of_anchors_eq (by simp) hs) x
  | time => exact hs
  | ringWrite n e | setRing n r => exact State.bankLaw_of_anchors_eq (by simp) hs

/-! ## The rings (R67) -/

theorem State.ringLaw_of_rings_eq {s t : State} (h : t.rings = s.rings) (hs : s.ringLaw) : t.ringLaw := by
  simpa only [State.ringLaw, State.ring, h] using hs

theorem State.ringLaw_setRing {s : State} {n : RingId} {r : Ring} (hs : s.ringLaw) (h : r.entries.length ≤ 32) :
    (s.setRing n r).ringLaw := by
  intro m
  rw [State.ring_setRing]
  split
  · exact h
  · exact hs m

theorem Ring.join_length_le {r : Ring} (h : r.entries.length ≤ 32) (e : RingEntry) : (r.join e).entries.length ≤ 32 := by
  unfold Ring.join
  repeat' split
  all_goals simp; omega

theorem State.ringLaw_ringWrite {s : State} (hs : s.ringLaw) (n : RingId) (e : RingEntry) : (s.ringWrite n e).ringLaw :=
  State.ringLaw_of_rings_eq (by simp [State.ringWrite]) (State.ringLaw_setRing (n := n) hs (Ring.join_length_le (hs n) e))

theorem State.ringLaw_finishMissed {s : State} (hs : s.ringLaw) (x : SlotId) : (s.finishMissed x).ringLaw := by
  have htimed : (s.setSlot x { s.slot x with roundTime := s.now }).ringLaw := State.ringLaw_of_rings_eq (by simp) hs
  unfold State.finishMissed
  dsimp only
  refine State.ringLaw_of_rings_eq (s := State.writeRound _ _ _) (by simp; rfl) ?_
  unfold State.writeRound
  split
  · exact htimed
  · exact State.ringLaw_ringWrite htimed _ _

theorem State.ringLaw_work {s t : State} (h : Work s t) (hs : s.ringLaw) : t.ringLaw := by
  cases h with
  | elsewhere h => exact State.ringLaw_of_rings_eq h.rings hs
  | acq h => exact State.ringLaw_of_rings_eq h.frame.1 hs
  | drive h => exact State.ringLaw_of_rings_eq h.frame.2.2.2.2 hs
  | missed l x rest => exact State.ringLaw_finishMissed (State.ringLaw_of_rings_eq (by simp) hs) x
  | time => exact hs
  | ringWrite n e => exact State.ringLaw_ringWrite hs n e
  | setRing n r hle => exact State.ringLaw_setRing hs (le_trans hle (hs n))

/-- Settles O7: each work keeps the law of the bank and the bound of the rings; a period boundary touches neither. -/
theorem bankAndRingLawsKept : Obligations.BankAndRingLawsKept := by
  intro s t h
  have hreset : State.reset.bankLaw ∧ State.reset.ringLaw := by decide
  exact ⟨step_keeps State.bankLaw_work (fun _ _ => State.bankLaw_of_anchors_eq (by simp)) hreset.1 h,
    step_keeps State.ringLaw_work (fun _ _ => State.ringLaw_of_rings_eq (by simp)) hreset.2 h⟩

end Sys2Proof.Machine
end

section
/-! The smallest steps of the drive: a write of one channel that leaves its magnitude and direction, and a recompute. With
them the laws of the counting units (R147, R148, R150), of the halted channels (R136), of the source states (R125, R132),
and of the direction (R93). -/

namespace Sys2Proof.Machine

open Relation (ReflTransGen)

/-! ## Channels and their counting units -/

theorem unitOf_eq_some_iff {c : ChanId} {u : UnitId} : unitOf c = some u ↔ chanOf u = c := by
  revert c u
  decide

theorem State.counter_handMagnitude (s : State) (c : ChanId) (before m : Nat) (u : UnitId) :
    (s.handMagnitude c before m).counter u =
      if unitOf c = some u then (s.counter u).handed before m s.now else s.counter u := by
  unfold State.handMagnitude
  split
  · next h => simp [h]
  · next k h =>
    rw [State.counter_setCounter, h]
    by_cases hk : k = u
    · subst hk; simp
    · simp [hk]

/-- The channel that a recompute makes of a channel's value, under the profile and the layer in force. -/
def State.formed (s : State) (c : ChanId) (v : Channel) : Channel :=
  v.recomputed (effective (s.overrides c).maximum v.maxBase) (s.layer c).capOf

theorem State.recompute_eq (s : State) (c : ChanId) :
    s.recompute c = (s.setChan c (s.formed c (s.chan c))).handMagnitude c (s.chan c).mag (s.formed c (s.chan c)).mag := rfl

theorem State.chan_recompute_eq (s : State) (c d : ChanId) :
    (s.recompute c).chan d = if c = d then s.formed c (s.chan c) else s.chan d := s.chan_recompute c d

@[simp] theorem State.chan_recompute_self (s : State) (c : ChanId) : (s.recompute c).chan c = s.formed c (s.chan c) := by
  simp [State.chan_recompute_eq]

theorem State.counter_recompute (s : State) (c : ChanId) (u : UnitId) :
    (s.recompute c).counter u =
      if unitOf c = some u then (s.counter u).handed (s.chan c).mag (s.formed c (s.chan c)).mag s.now
      else s.counter u := by
  rw [State.recompute_eq, State.counter_handMagnitude]
  rfl

/-- A write of a channel leaves the profile and the layer in force. -/
@[simp] theorem State.formed_setChan (s : State) (c d : ChanId) (v w : Channel) :
    (s.setChan c v).formed d w = s.formed d w := rfl

/-! ## The smallest steps -/

/-- A new channel state that the guard layer allows: a channel under COAST or BRAKE is in OFF, in HALT, or keeps a state
that is one of these. -/
def State.AllowsState (s : State) (c : ChanId) (st : ChanState) : Prop :=
  (s.layer c).halts = true →
    st = .off ∨ st = .halt ∨ st = (s.chan c).state ∨ ((s.chan c).state ≠ .off ∧ (s.chan c).state ≠ .halt)

/-- A smallest step of the drive. -/
inductive DriveStep : State → State → Prop
  | same {s t : State} : t.chans = s.chans → t.sources = s.sources → t.counters = s.counters → DriveStep s t
  | write {s : State} (c : ChanId) (v : Channel) : v.mag = (s.chan c).mag → v.direction = (s.chan c).direction →
      s.AllowsState c v.state → DriveStep s (s.setChan c v)
  | recompute {s : State} (c : ChanId) : DriveStep s (s.recompute c)

abbrev DriveSteps : State → State → Prop := ReflTransGen DriveStep

theorem State.allowsState_same (s : State) (c : ChanId) : s.AllowsState c (s.chan c).state := fun _ => .inr (.inr (.inl rfl))

theorem driveSteps_ite {p : Prop} [Decidable p] {s a b : State} (ha : p → DriveSteps s a) (hb : ¬ p → DriveSteps s b) :
    DriveSteps s (if p then a else b) := by
  split
  · exact ha ‹_›
  · exact hb ‹_›

theorem driveSteps_foldl {α : Type} {f : State → α → State} (h : ∀ s a, DriveSteps s (f s a)) (l : List α) (s : State) :
    DriveSteps s (l.foldl f s) := by
  induction l generalizing s with
  | nil => exact .refl
  | cons a l ih => exact (h s a).trans (ih (f s a))

theorem recompute_steps (s : State) (c : ChanId) : DriveSteps s (s.recompute c) := .single (.recompute c)

/-- A write that leaves magnitude, direction and state, and the recompute that may follow. -/
theorem write_steps {s : State} {c : ChanId} (v : Channel) (hmag : v.mag = (s.chan c).mag)
    (hdir : v.direction = (s.chan c).direction) (hstate : v.state = (s.chan c).state) :
    DriveSteps s (s.setChan c v) :=
  .single (.write c v hmag hdir (hstate ▸ s.allowsState_same c))

theorem writeRecompute_steps {s : State} {c : ChanId} (v : Channel) (hmag : v.mag = (s.chan c).mag)
    (hdir : v.direction = (s.chan c).direction) (hstate : v.state = (s.chan c).state) :
    DriveSteps s ((s.setChan c v).recompute c) :=
  (write_steps v hmag hdir hstate).trans (recompute_steps _ c)

theorem zeroDrive_steps (s : State) (c : ChanId) : DriveSteps s (s.zeroDrive c) :=
  writeRecompute_steps _ (by rfl) (by rfl) (by rfl)

theorem stopChannel_steps (brake : Bool) (s : State) (c : ChanId) : DriveSteps s (State.stopChannel brake s c) := by
  cases brake with
  | false => exact zeroDrive_steps s c
  | true => exact (zeroDrive_steps s c).trans (write_steps _ (by rfl) (by rfl) (by rfl))

theorem reformed_steps (s : State) (c : ChanId) : DriveSteps s (s.reformed c) :=
  driveSteps_ite (fun _ => writeRecompute_steps _ (by rfl) (by rfl) (by rfl)) (fun _ => recompute_steps s c)

theorem takePeriod_steps (s : State) (c : ChanId) : DriveSteps s (s.takePeriod c) := by
  unfold State.takePeriod
  split
  · exact .refl
  · exact writeRecompute_steps _ (by rfl) (by rfl) (by rfl)

theorem enableChannel_steps (s : State) (c : ChanId) : DriveSteps s (s.enableChannel c) := by
  refine ReflTransGen.trans (.single (.write c _ (by rfl) (by rfl) ?_)) (takePeriod_steps _ c)
  intro hhalts
  simp [hhalts]

theorem disableChannel_steps (s : State) (c : ChanId) : DriveSteps s (s.disableChannel c) :=
  ReflTransGen.trans (.single (.write c _ (by rfl) (by rfl) (fun _ => .inl rfl))) (recompute_steps _ c)

theorem writeEnable_steps (s : State) (c : ChanId) (enable : Option Bool) : DriveSteps s (s.writeEnable c enable) := by
  unfold State.writeEnable
  split
  · exact .refl
  · exact driveSteps_ite (fun _ => enableChannel_steps s c) (fun _ => .refl)
  · exact driveSteps_ite (fun _ => .refl) (fun _ => disableChannel_steps s c)

theorem writeHoldTime_steps (s : State) (c : ChanId) (time : Option Nat) : DriveSteps s (s.writeHoldTime c time) :=
  .single (.same (by simp) (by simp) (by simp))

theorem afterChannelWrite_steps (s : State) (c : ChanId) (w : ChannelWrite) :
    DriveSteps s (s.afterChannelWrite c w) :=
  driveSteps_ite (fun _ => reformed_steps s c)
    (fun _ => driveSteps_ite (fun _ => recompute_steps s c) (fun _ => .refl))

theorem writeChannel_steps (s : State) (c : ChanId) (w : ChannelWrite) : DriveSteps s (s.writeChannel c w) :=
  (((write_steps _ (by rfl) (by rfl) (by rfl)).trans (writeHoldTime_steps _ c _)).trans (writeEnable_steps _ c _)).trans
    (afterChannelWrite_steps _ c w)

theorem Channel.driven_same (v : Channel) (t : Int) :
    (v.driven t).mag = v.mag ∧ (v.driven t).direction = v.direction := by
  unfold Channel.driven
  split <;> exact ⟨rfl, rfl⟩

theorem setTargets_steps (s : State) (d : DriveRequest) : DriveSteps s (s.setTargets d) := by
  refine driveSteps_foldl (fun s c => driveSteps_ite (fun _ => ?_) (fun _ => .refl)) allChans s
  obtain ⟨hmag, hdir⟩ := (s.chan c).driven_same (d.target c)
  refine .single (.write c _ hmag hdir fun _ => ?_)
  unfold Channel.driven
  split
  · next h => exact .inr (.inr (.inr (by simp [h.1])))
  · exact .inr (.inr (.inl rfl))

theorem writeProfile_steps (s : State) (pf : Fin 4) (c : ChanId) (o : Overrides) :
    DriveSteps s (s.writeProfile pf c o) :=
  ReflTransGen.trans (.single (.same (by simp) (by simp) (by simp)))
    (driveSteps_ite (fun _ => reformed_steps (s.setOverrides pf c o) c) (fun _ => .refl))

theorem selectProfile_steps (s : State) (pf : Fin 4) : DriveSteps s (s.selectProfile pf) :=
  ReflTransGen.trans (.single (.same (t := { s with activeProfile := pf }) rfl rfl rfl))
    (driveSteps_foldl reformed_steps allChans { s with activeProfile := pf })

theorem rampChannel_steps (s : State) (c : ChanId) : DriveSteps s (s.rampChannel c) :=
  driveSteps_ite (fun _ => .refl) (fun _ => writeRecompute_steps _ (by rfl) (by rfl) (by rfl))

/-- A ramp tick leaves a channel that is in OFF or HALT there. -/
theorem Channel.tickState_cases (v : Channel) (c : ChanId) :
    v.tickState c = v.state ∨ (v.state ≠ .off ∧ v.state ≠ .halt) := by
  unfold Channel.tickState
  split
  · next h => exact .inr (by simp [h])
  · exact .inl rfl

theorem decideState_steps (s : State) (c : ChanId) : DriveSteps s (s.decideState c) := by
  refine .single (.write c _ (by rfl) (by rfl) fun _ => ?_)
  exact .inr (.inr ((s.chan c).tickState_cases c))

theorem tickChannel_steps (s : State) (c : ChanId) : DriveSteps s (s.tickChannel c) := by
  unfold State.tickChannel
  split
  · exact (rampChannel_steps s c).trans (decideState_steps _ c)
  · exact (rampChannel_steps s c).trans (decideState_steps _ c)
  · exact .refl

theorem postLimit_steps (s : State) (c : ChanId) (before fold : Nat) (value : Count) :
    DriveSteps s (s.postLimit c before fold value) :=
  .single (.same (by simp) (by simp) (by simp))

theorem deliver_steps (s : State) (c : ChanId) (value : Count) : DriveSteps s (s.deliver c value) :=
  driveSteps_ite (fun _ => .refl) fun _ =>
    (writeRecompute_steps _ (by rfl) (by rfl) (by rfl)).trans (postLimit_steps _ c _ _ value)

theorem enterHalt_steps (s : State) (c : ChanId) : DriveSteps s (s.enterHalt c) :=
  ReflTransGen.trans (.single (.write c _ (by rfl) (by rfl) (fun _ => .inr (.inl rfl)))) (recompute_steps _ c)

theorem applyLayer_steps (s : State) (c : ChanId) : DriveSteps s (s.applyLayer c) := by
  unfold State.applyLayer
  split
  · exact .refl
  · exact recompute_steps s c
  · next hlayer =>
    refine ReflTransGen.trans (.single (.write c _ (by rfl) (by rfl) (fun hhalts => ?_))) (recompute_steps _ c)
    simp [hlayer] at hhalts
  · exact enterHalt_steps s c
  · exact recompute_steps s c

theorem applyMask_steps (s : State) (mask : BitVec 4) : DriveSteps s (s.applyMask mask) :=
  driveSteps_foldl (fun s c => driveSteps_ite (fun _ => applyLayer_steps s c) (fun _ => .refl)) allChans s

end Sys2Proof.Machine
end

section
/-! The laws of the counting units (R147, R148, R150), of the halted channels and the source states (R125, R132, R136), and
of the direction (R93). -/

namespace Sys2Proof.Machine

open Relation (ReflTransGen)

/-! ## What time and a missed round do to a channel -/

theorem State.chan_advanceTime (s : State) (c : ChanId) : s.advanceTime.chan c = (s.chan c).tick := by
  simp [State.advanceTime, State.chan, Vector.get_eq_getElem]

theorem State.source_advanceTime (s : State) (n : SourceId) :
    s.advanceTime.source n = (s.source n).tick s.clock.tick.stamp := by
  simp [State.advanceTime, State.source, Vector.get_eq_getElem]

theorem State.chan_missFeedback (s : State) (dest : Option Feedback) (c : ChanId) :
    ∃ missed, (s.missFeedback dest).chan c = { s.chan c with fbMissed := missed } := by
  cases dest with
  | none => exact ⟨_, rfl⟩
  | some f =>
    simp only [State.missFeedback, State.setFeedbackMissed, State.chan_setChan]
    split
    · next h => exact ⟨true, by rw [h]⟩
    · exact ⟨_, rfl⟩

theorem State.chan_finishMissed (s : State) (x : SlotId) (c : ChanId) :
    ∃ missed, (s.finishMissed x).chan c = { s.chan c with fbMissed := missed } := by
  have hchans {a b : State} (h : a.chans = b.chans) : a.chan c = b.chan c := by rw [State.chan, h]; rfl
  unfold State.finishMissed
  dsimp only
  obtain ⟨missed, hmissed⟩ := State.chan_missFeedback
    ((s.setSlot x { s.slot x with roundTime := s.now }).writeRound (s.slot x).defn.ring
      { slot := x, status := .missed, number := (s.slot x).sequence, roundTime := s.now, values := [] })
    (s.slot x).defn.feedback c
  refine ⟨missed, (hchans (by simp; rfl)).trans (hmissed.trans ?_)⟩
  rw [hchans (b := s) (by simp)]

/-! ## The counting units -/

/-- The law of a counting unit that watches a channel of this magnitude (R143, R147, R148, R150). -/
def Counter.lawful (k : Counter) (mag : Nat) : Prop :=
  (k.armed = true → mag ≠ 0 ∧ k.lockout = false) ∧ (k.lockout = true → mag ≠ 0) ∧
    (if k.tallyLimit = 0 then k.tally = 0 else k.tally < k.tallyLimit)

theorem State.counterLaw_iff (s : State) : s.counterLaw ↔ ∀ u, (s.counter u).lawful (s.watched u) := Iff.rfl

theorem State.counterLaw_of_eq {s t : State} (hcounters : t.counters = s.counters)
    (hmag : ∀ c, (t.chan c).mag = (s.chan c).mag) (hs : s.counterLaw) : t.counterLaw := by
  intro u
  have hcounter : t.counter u = s.counter u := by simp [State.counter, hcounters]
  have hwatched : t.watched u = s.watched u := hmag _
  rw [hcounter, hwatched]
  exact hs u

theorem State.counterLaw_setCounter {s : State} {u : UnitId} {k : Counter} (hs : s.counterLaw)
    (h : k.lawful (s.watched u)) : (s.setCounter u k).counterLaw := by
  intro v
  rw [State.counter_setCounter]
  split
  · next huv => exact huv ▸ h
  · exact hs v

/-- A magnitude of 0 disarms and unlocks; a rise from 0 may arm; the tally is not touched (R148, R150). -/
theorem Counter.lawful_handed {k : Counter} {mag : Nat} (h : k.lawful mag) (before u : Nat) (now : Stamp) :
    (k.handed before u now).lawful u := by
  obtain ⟨harmed, -, htally⟩ := h
  have hunlocked : k.armed = true → k.lockout = false := fun ha => (harmed ha).2
  unfold Counter.handed
  split
  · next hzero => exact ⟨by simp, by simp, htally⟩
  · next hpos =>
    split
    · next hrise =>
      split
      · exact ⟨fun _ => ⟨hpos, hrise.2.2⟩, fun _ => hpos, htally⟩
      · exact ⟨fun ha => ⟨hpos, hunlocked ha⟩, fun _ => hpos, htally⟩
    · exact ⟨fun ha => ⟨hpos, hunlocked ha⟩, fun _ => hpos, htally⟩

theorem State.counterLaw_recompute {s : State} (hs : s.counterLaw) (c : ChanId) : (s.recompute c).counterLaw := by
  intro u
  have hwatched : (s.recompute c).watched u =
      if c = chanOf u then (s.formed c (s.chan c)).mag else s.watched u := by
    rw [State.watched, State.chan_recompute_eq]
    split <;> rfl
  rw [State.counter_recompute, hwatched]
  by_cases h : c = chanOf u
  · subst h
    simp only [unitOf_eq_some_iff, if_true]
    exact Counter.lawful_handed (hs u) _ _ _
  · simp only [unitOf_eq_some_iff, eq_comm (a := chanOf u), h, if_false]
    exact hs u

theorem State.mag_setChan {s : State} {c : ChanId} {v : Channel} (h : v.mag = (s.chan c).mag) (d : ChanId) :
    ((s.setChan c v).chan d).mag = (s.chan d).mag := by
  rw [State.chan_setChan]
  split
  · next hcd => exact hcd ▸ h
  · rfl

theorem State.counterLaw_driveSteps {s t : State} (h : DriveSteps s t) (hs : s.counterLaw) : t.counterLaw := by
  induction h with
  | refl => exact hs
  | tail _ hstep ih =>
    cases hstep with
    | same hchans _ hcounters => exact State.counterLaw_of_eq hcounters (fun c => by rw [State.chan, hchans]; rfl) ih
    | write c v hmag => exact State.counterLaw_of_eq (by simp) (State.mag_setChan hmag) ih
    | recompute c => exact State.counterLaw_recompute ih c

/-- The tally after one counted edge is below the limit, or 0 with no limit (R147). -/
theorem Counter.lawful_counted {k : Counter} {mag : Nat} (h : k.lawful mag) (up : Bool) (now : Stamp) :
    (k.counted up now).lawful mag := by
  obtain ⟨harmed, hlocked, htally⟩ := h
  refine ⟨harmed, hlocked, ?_⟩
  simp only [Counter.counted, Counter.nextTally]
  by_cases hlimit : k.tallyLimit = 0
  · simpa [hlimit] using htally
  · simp only [hlimit, if_false]
    split
    · omega
    · next hwraps =>
      have hroom : ¬ k.tallyLimit ≤ k.tally + 1 := by simpa [Counter.wraps, hlimit] using hwraps
      omega

theorem Counter.lawful_written {k : Counter} {mag : Nat} (h : k.lawful mag) (w : CounterWrite) (now : Stamp) :
    (k.written w now).lawful mag := by
  obtain ⟨harmed, hlocked, htally⟩ := h
  refine ⟨harmed, hlocked, ?_⟩
  cases hw : w.tallyLimit with
  | none => simpa [Counter.written, hw] using htally
  | some limit =>
    simp only [Counter.written, hw, Option.getD_some, tallyUnder]
    split <;> split <;> omega

theorem State.counterLaw_driveWork {s t : State} (h : DriveWork s t) (hs : s.counterLaw) : t.counterLaw := by
  have hsame {a b : State} (hcounters : b.counters = a.counters) (hchans : b.chans = a.chans) (ha : a.counterLaw) :
      b.counterLaw := State.counterLaw_of_eq hcounters (fun c => by rw [State.chan, hchans]; rfl) ha
  cases h with
  | mark c v hv => exact State.counterLaw_of_eq (by simp) (State.mag_setChan (by rw [hv])) hs
  | writeChannel c w => exact State.counterLaw_driveSteps (writeChannel_steps s c w) hs
  | drive d => exact State.counterLaw_driveSteps (setTargets_steps s d) hs
  | stop brake c => exact State.counterLaw_driveSteps (stopChannel_steps brake s c) hs
  | dropTarget c => exact State.counterLaw_of_eq (by simp) (State.mag_setChan rfl) hs
  | writeProfile pf c o => exact State.counterLaw_driveSteps (writeProfile_steps s pf c o) hs
  | selectProfile pf => exact State.counterLaw_driveSteps (selectProfile_steps s pf) hs
  | ramp c => exact State.counterLaw_driveSteps (tickChannel_steps s c) hs
  | deliver c value => exact State.counterLaw_driveSteps (deliver_steps s c value) hs
  | configure n w | unqualify n | latch n => exact hsame (by simp) (by simp) hs
  | qualify n => exact hsame (by simp) (by simp) hs
  | trip n src k m d => exact State.counterLaw_driveSteps (applyMask_steps _ _) (hsame (by simp) (by simp) hs)
  | clear n src => exact State.counterLaw_driveSteps (applyMask_steps _ _) (hsame (by simp) (by simp) hs)
  | count u up => exact State.counterLaw_setCounter hs (Counter.lawful_counted (hs u) up _)
  | armUnit u hgrace =>
    simp only [State.graceOver, State.graceRuns, Bool.and_eq_true, bne_iff_ne, ne_eq, Bool.not_eq_true'] at hgrace
    obtain ⟨⟨⟨hmag, -⟩, hlockout⟩, -⟩ := hgrace
    obtain ⟨-, hlocked, htally⟩ := hs u
    exact State.counterLaw_setCounter hs ⟨fun _ => ⟨hmag, hlockout⟩, hlocked, htally⟩
  | disarm u =>
    obtain ⟨-, hlocked, htally⟩ := hs u
    refine State.counterLaw_setCounter hs ⟨by simp, fun h => ?_, htally⟩
    rcases Bool.or_eq_true_iff.mp h with h | h
    · exact hlocked h
    · simpa using h
  | writeUnit u w => exact State.counterLaw_setCounter hs (Counter.lawful_written (hs u) w _)

/-- A law of the drive that no ring, no mark of a missed round and no pulse timer bears on is kept by every work if it is
kept by the works of the drive. -/
theorem work_keeps_of_drive {P : State → Prop} (hdrive : ∀ {s t}, DriveWork s t → P s → P t)
    (hsame : ∀ {s t : State}, t.chans = s.chans → t.profiles = s.profiles → t.activeProfile = s.activeProfile →
      t.sources = s.sources → t.counters = s.counters → P s → P t)
    (hmarks : ∀ {s t : State}, (∀ c, ∃ missed phase, t.chan c = { s.chan c with fbMissed := missed, phase := phase }) →
      (∀ n, ∃ held, t.source n = { s.source n with heldLong := held }) →
      t.profiles = s.profiles → t.activeProfile = s.activeProfile → t.counters = s.counters → P s → P t)
    {s t : State} (h : Work s t) (hs : P s) : P t := by
  cases h with
  | elsewhere h => exact hsame h.chans h.profiles h.activeProfile h.sources h.counters hs
  | time =>
    refine hmarks (s := s) (fun c => ?_) (fun n => ?_) rfl rfl rfl hs
    · rw [State.chan_advanceTime, Channel.tick]
      split
      · exact ⟨_, _, rfl⟩
      · exact ⟨_, _, rfl⟩
    · rw [State.source_advanceTime, Source.tick]
      split
      · exact ⟨_, rfl⟩
      · exact ⟨_, rfl⟩
  | acq h =>
    obtain ⟨-, hchans, hprofiles, hactive, hsources, hcounters⟩ := h.frame
    exact hsame hchans hprofiles hactive hsources hcounters hs
  | drive h => exact hdrive h hs
  | missed l x rest =>
    refine hmarks (fun c => ?_) (fun n => ⟨(s.source n).heldLong, by simp [State.source]⟩) (by simp) (by simp) (by simp) hs
    obtain ⟨missed, hmissed⟩ := State.chan_finishMissed (s.setLevel l rest) x c
    exact ⟨missed, (s.chan c).phase, hmissed⟩
  | ringWrite n e => exact hsame (by simp) (by simp) (by simp) (by simp) (by simp) hs
  | setRing n r => exact hsame (by simp) (by simp) (by simp) (by simp) (by simp) hs

theorem State.counterLaw_work {s t : State} (h : Work s t) (hs : s.counterLaw) : t.counterLaw := by
  refine work_keeps_of_drive State.counterLaw_driveWork ?_ ?_ h hs
  · intro s t hchans _ _ _ hcounters
    exact State.counterLaw_of_eq hcounters (fun c => by rw [State.chan, hchans]; rfl)
  · intro s t hchan _ _ _ hcounters
    refine State.counterLaw_of_eq hcounters (fun c => ?_)
    obtain ⟨missed, phase, h⟩ := hchan c
    rw [h]

theorem Channel.dwellDecision_mag (v : Channel) : v.dwellDecision.mag = v.mag := by
  unfold Channel.dwellDecision
  repeat' split
  all_goals rfl

theorem Channel.decideDwell_mag (v : Channel) : v.decideDwell.mag = v.mag := by
  unfold Channel.decideDwell
  split
  · exact v.dwellDecision_mag
  · rfl

theorem State.boundary_of_enabled {s : State} {c : ChanId} (h : (s.chan c).state ≠ .off) :
    s.boundary c = (s.takePeriod c).setChan c ((s.takePeriod c).chan c).decideDwell.load := by
  simp [State.boundary, h]

/-- Settles O10: each work of the drive keeps the law at each unit, and so does a period boundary. -/
theorem counterLawKept : Obligations.CounterLawKept := by
  intro s t h
  refine step_keeps State.counterLaw_work ?_ (by decide) h
  intro s c hon hs
  rw [State.boundary_of_enabled hon]
  refine State.counterLaw_of_eq (by simp) (State.mag_setChan ?_)
    (State.counterLaw_driveSteps (takePeriod_steps s c) hs)
  exact Channel.decideDwell_mag _

end Sys2Proof.Machine
end

section
/-! A local channel work changes one channel and the unit that watches it, and looks at nothing else but the profiles, the
sources and the clock. A pass of a local work over the channels does to each channel what the work does there alone. -/

namespace Sys2Proof.Machine

/-- Two states agree on a channel, on the unit that watches it, and on what a work at that channel looks at. -/
structure State.AgreesAt (c : ChanId) (s t : State) : Prop where
  chan : t.chan c = s.chan c
  counter : ∀ u, chanOf u = c → t.counter u = s.counter u
  profiles : t.profiles = s.profiles
  activeProfile : t.activeProfile = s.activeProfile
  sources : t.sources = s.sources
  clock : t.clock = s.clock

theorem State.AgreesAt.refl (c : ChanId) (s : State) : s.AgreesAt c s := ⟨rfl, fun _ _ => rfl, rfl, rfl, rfl, rfl⟩

theorem State.AgreesAt.symm {c : ChanId} {s t : State} (h : s.AgreesAt c t) : t.AgreesAt c s :=
  ⟨h.chan.symm, fun u hu => (h.counter u hu).symm, h.profiles.symm, h.activeProfile.symm, h.sources.symm, h.clock.symm⟩

theorem State.AgreesAt.trans {c : ChanId} {s t u : State} (h : s.AgreesAt c t) (h' : t.AgreesAt c u) : s.AgreesAt c u :=
  ⟨h'.chan.trans h.chan, fun k hk => (h'.counter k hk).trans (h.counter k hk), h'.profiles.trans h.profiles,
    h'.activeProfile.trans h.activeProfile, h'.sources.trans h.sources, h'.clock.trans h.clock⟩

theorem State.AgreesAt.formed {c : ChanId} {s t : State} (h : s.AgreesAt c t) (v : Channel) : t.formed c v = s.formed c v := by
  simp only [State.formed, State.overrides, State.layer, h.profiles, h.activeProfile, h.sources]

/-- A work at one channel. -/
structure LocalWork (f : State → ChanId → State) : Prop where
  elsewhere : ∀ (s : State) (c d : ChanId), c ≠ d → s.AgreesAt d (f s c)
  congr : ∀ (s t : State) (c : ChanId), s.AgreesAt c t → (f s c).AgreesAt c (f t c)

theorem LocalWork.id : LocalWork (fun s _ => s) := ⟨fun s _ d _ => .refl d s, fun _ _ _ h => h⟩

theorem LocalWork.comp {f g : State → ChanId → State} (hf : LocalWork f) (hg : LocalWork g) :
    LocalWork (fun s c => g (f s c) c) :=
  ⟨fun s c d h => (hf.elsewhere s c d h).trans (hg.elsewhere (f s c) c d h),
    fun s t c h => hg.congr _ _ c (hf.congr s t c h)⟩

theorem LocalWork.ite {p : State → ChanId → Prop} [∀ s c, Decidable (p s c)] {f g : State → ChanId → State}
    (hp : ∀ s t c, s.AgreesAt c t → (p s c ↔ p t c)) (hf : LocalWork f) (hg : LocalWork g) :
    LocalWork (fun s c => if p s c then f s c else g s c) := by
  constructor
  · intro s c d h
    split
    · exact hf.elsewhere s c d h
    · exact hg.elsewhere s c d h
  · intro s t c h
    simp only [← hp s t c h]
    split
    · exact hf.congr s t c h
    · exact hg.congr s t c h

/-- A write of a channel that looks at what a local work may look at is local. -/
theorem LocalWork.set {F : State → ChanId → Channel} (hF : ∀ s t c, s.AgreesAt c t → F s c = F t c) :
    LocalWork (fun s c => s.setChan c (F s c)) := by
  constructor
  · intro s c d h
    exact ⟨by simp [State.chan_setChan, h], fun u _ => by simp [State.counter], by simp, by simp, by simp, by simp⟩
  · intro s t c h
    refine ⟨?_, fun u hu => ?_, by simpa using h.profiles, by simpa using h.activeProfile, by simpa using h.sources,
      by simpa using h.clock⟩
    · simp [hF s t c h]
    · simpa [State.counter] using h.counter u hu

theorem LocalWork.recompute : LocalWork State.recompute := by
  constructor
  · intro s c d h
    refine ⟨by simp [State.chan_recompute_eq, h], fun u hu => ?_, by simp, by simp, by simp, by simp⟩
    have hne : chanOf u ≠ c := fun he => h (he.symm.trans hu)
    rw [State.counter_recompute, if_neg (mt unitOf_eq_some_iff.mp hne)]
  · intro s t c h
    refine ⟨by simp [h.formed, h.chan], fun u hu => ?_, by simpa using h.profiles, by simpa using h.activeProfile,
      by simpa using h.sources, by simpa using h.clock⟩
    simp only [State.counter_recompute, h.formed, h.chan, h.counter u hu, State.now, h.clock]

theorem LocalWork.setRecompute {F : State → ChanId → Channel} (hF : ∀ s t c, s.AgreesAt c t → F s c = F t c) :
    LocalWork (fun s c => (s.setChan c (F s c)).recompute c) := (LocalWork.set hF).comp LocalWork.recompute

/-! ## A pass over the channels -/

theorem LocalWork.fold_of_not_mem {f : State → ChanId → State} (hf : LocalWork f) {l : List ChanId} {d : ChanId}
    (hd : d ∉ l) (s : State) : s.AgreesAt d (l.foldl f s) := by
  induction l generalizing s with
  | nil => exact .refl d s
  | cons c l ih =>
    simp only [List.mem_cons, not_or] at hd
    exact (hf.elsewhere s c d (Ne.symm hd.1)).trans (ih hd.2 (f s c))

theorem LocalWork.fold_of_mem {f : State → ChanId → State} (hf : LocalWork f) {l : List ChanId} (hl : l.Nodup)
    {d : ChanId} (hd : d ∈ l) (s : State) : (f s d).AgreesAt d (l.foldl f s) := by
  induction l generalizing s with
  | nil => simp at hd
  | cons c l ih =>
    obtain ⟨hc, hl⟩ := List.nodup_cons.mp hl
    rw [List.foldl_cons]
    rcases List.mem_cons.mp hd with rfl | hd
    · exact hf.fold_of_not_mem hc (f s d)
    · have hne : c ≠ d := fun he => hc (he ▸ hd)
      exact (hf.congr s (f s c) d (hf.elsewhere s c d hne)).trans (ih hl hd (f s c))

/-- A pass of a local work over all channels does at each channel what the work does there. -/
theorem LocalWork.pass {f : State → ChanId → State} (hf : LocalWork f) (s : State) (d : ChanId) :
    (f s d).AgreesAt d (allChans.foldl f s) :=
  hf.fold_of_mem (by decide) (by revert d; decide) s

/-! ## The local works of the drive -/

theorem LocalWork.zeroDrive : LocalWork State.zeroDrive :=
  .setRecompute (fun _ _ _ h => by rw [h.chan])

theorem LocalWork.stopChannel (brake : Bool) : LocalWork (State.stopChannel brake) := by
  cases brake with
  | false => exact .zeroDrive
  | true =>
    exact LocalWork.zeroDrive.comp
      (.set (F := fun s c => { s.chan c with brakeHeld := true }) (fun _ _ _ h => by rw [h.chan]))

theorem LocalWork.onEnabled {f : State → ChanId → State} (hf : LocalWork f) :
    LocalWork (fun s c => if (s.chan c).state = .off then s else f s c) :=
  .ite (fun _ _ _ h => by rw [h.chan]) .id hf

theorem LocalWork.reformed : LocalWork State.reformed :=
  .ite (fun _ _ _ h => by simp only [State.effLimit, State.overrides, h.profiles, h.activeProfile, h.chan])
    (.setRecompute (fun _ _ _ h => by rw [h.chan])) .recompute

theorem LocalWork.enterHalt : LocalWork State.enterHalt := .setRecompute (fun _ _ _ h => by rw [h.chan])

theorem LocalWork.rampChannel : LocalWork State.rampChannel :=
  .ite (fun _ _ _ h => by simp only [State.effSlew, State.overrides, h.profiles, h.activeProfile, h.chan]) .id
    (.setRecompute (fun _ _ _ h => by simp only [State.effSlew, State.overrides, h.profiles, h.activeProfile, h.chan]))

theorem LocalWork.decideState : LocalWork State.decideState := .set (fun _ _ _ h => by rw [h.chan])

/-- What a ramp tick does at a channel, in one test of its state. -/
theorem State.tickChannel_eq (s : State) (c : ChanId) :
    s.tickChannel c =
      if (s.chan c).state = .run ∨ (s.chan c).state = .dwell then (s.rampChannel c).decideState c else s := by
  unfold State.tickChannel
  split
  · next h => simp [h]
  · next h => simp [h]
  · next hrun hdwell => rw [if_neg (not_or.mpr ⟨hrun, hdwell⟩)]

theorem LocalWork.tickChannel : LocalWork State.tickChannel := by
  have h : LocalWork (fun s c =>
      if (s.chan c).state = .run ∨ (s.chan c).state = .dwell then (s.rampChannel c).decideState c else s) :=
    .ite (fun _ _ _ h => by rw [h.chan]) (LocalWork.rampChannel.comp .decideState) .id
  simpa only [← State.tickChannel_eq] using h

/-- What the handing of a layer does at a channel, test by test (R136). -/
theorem State.applyLayer_eq (s : State) (c : ChanId) :
    s.applyLayer c =
      if (s.chan c).state = .off then s
      else if (s.chan c).state = .halt then
        if (s.layer c).halts then s.recompute c else (s.setChan c { s.chan c with state := .idle }).recompute c
      else if (s.layer c).halts then s.enterHalt c else s.recompute c := by
  unfold State.applyLayer
  split
  · next h => simp [h]
  · next h hl => simp [h, hl]
  · next h hl => simp [h, hl]
  · next hoff hhalt hl => simp_all
  · next hoff hhalt hl => simp_all

theorem LocalWork.applyLayer : LocalWork State.applyLayer := by
  have hstate (s t : State) (c : ChanId) (st : ChanState) (h : s.AgreesAt c t) :
      (s.chan c).state = st ↔ (t.chan c).state = st := by rw [h.chan]
  have hhalts (s t : State) (c : ChanId) (h : s.AgreesAt c t) :
      (s.layer c).halts = true ↔ (t.layer c).halts = true := by rw [State.layer, State.layer, h.sources]
  have h : LocalWork (fun s c =>
      if (s.chan c).state = .off then s
      else if (s.chan c).state = .halt then
        if (s.layer c).halts then s.recompute c else (s.setChan c { s.chan c with state := .idle }).recompute c
      else if (s.layer c).halts then s.enterHalt c else s.recompute c) :=
    .ite (fun s t c h => hstate s t c _ h) .id
      (.ite (fun s t c h => hstate s t c _ h)
        (.ite hhalts .recompute (.setRecompute (fun _ _ _ h => by rw [h.chan])))
        (.ite hhalts .enterHalt .recompute))
  simpa only [← State.applyLayer_eq] using h

/-- What the handing of the layers of a mask does at each channel. -/
theorem State.applyMask_agrees (s : State) (mask : BitVec 4) (d : ChanId) :
    (if mask.getLsbD d.val then s.applyLayer d else s).AgreesAt d (s.applyMask mask) :=
  LocalWork.pass (f := fun s c => if mask.getLsbD c.val then s.applyLayer c else s)
    (.ite (fun _ _ _ _ => Iff.rfl) .applyLayer .id) s d

/-- What a pass over the enabled channels does at each channel. -/
theorem State.onEnabled_agrees {f : State → ChanId → State} (hf : LocalWork f) (s : State) (d : ChanId) :
    (if (s.chan d).state = .off then s else f s d).AgreesAt d (s.onEnabled f) :=
  hf.onEnabled.pass s d

theorem State.setTargets_agrees (s : State) (q : DriveRequest) (d : ChanId) :
    (if q.names d then s.setChan d ((s.chan d).driven (q.target d)) else s).AgreesAt d (s.setTargets q) :=
  LocalWork.pass (f := fun s c => if q.names c then s.setChan c ((s.chan c).driven (q.target c)) else s)
    (.ite (fun _ _ _ _ => Iff.rfl) (.set (fun _ _ _ h => by rw [h.chan])) .id) s d

end Sys2Proof.Machine
end

section
/-! The laws of the halted channels and the source states (R125, R132, R136), and of the direction (R93). -/

namespace Sys2Proof.Machine

open Relation (ReflTransGen)

/-! ## Halted channels (R136) -/

/-- A source holds a channel in HALT: it is enabled, with action COAST or BRAKE, and acts on the channel. -/
def Source.halts (src : Source) (c : ChanId) : Prop :=
  src.enabled = true ∧ (src.action = .coast ∨ src.action = .brake) ∧ src.holds c = true

/-- Some source holds the channel in HALT. -/
def State.mustHalt (s : State) (c : ChanId) : Prop := ∃ n, (s.source n).halts c

theorem State.haltLaw_iff (s : State) :
    s.haltLaw ↔ ∀ c, s.mustHalt c → (s.chan c).state ≠ .off → (s.chan c).state = .halt := by
  simp only [State.haltLaw, State.mustHalt, Source.halts, Source.holds_iff]
  constructor
  · rintro h c ⟨n, hon, haction, hacts, hmask⟩
    exact h n c hon haction hacts hmask
  · intro h n c hon haction hacts hmask
    exact h c ⟨n, hon, haction, hacts, hmask⟩

theorem State.mustHalt_of_sources_eq {s t : State} (h : t.sources = s.sources) (c : ChanId) :
    t.mustHalt c ↔ s.mustHalt c := by
  simp only [State.mustHalt, State.source, h]

theorem State.layer_of_sources_eq {s t : State} (h : t.sources = s.sources) (c : ChanId) : t.layer c = s.layer c := by
  simp only [State.layer, h]

/-- The layer of a channel that a source holds in HALT is COAST or BRAKE (R135). -/
theorem State.halts_of_mustHalt {s : State} {c : ChanId} (h : s.mustHalt c) : (s.layer c).halts = true := by
  obtain ⟨n, -, haction, hholds⟩ := h
  obtain ⟨hbrake, hcoast, -⟩ := layerIsStrongestAction s c
  obtain ⟨hacts, hmask⟩ := Source.holds_iff.mp hholds
  by_cases hb : s.layer c = .brake
  · rw [hb]; rfl
  · have hnone : ¬ ∃ n, (s.source n).action = .brake ∧
        ((s.source n).state = .tripped ∨ (s.source n).state = .latched) ∧ (s.source n).mask.getLsbD c.val = true :=
      fun he => hb (hbrake.mpr he)
    have hc : s.layer c = .coast := by
      refine hcoast.mpr ⟨⟨n, haction.resolve_right fun he => hnone ⟨n, he, hacts, hmask⟩, hacts, hmask⟩, hnone⟩
    rw [hc]; rfl

theorem State.haltLaw_of_eq {s t : State} (hsources : t.sources = s.sources)
    (hstate : ∀ c, (t.chan c).state = (s.chan c).state) (hs : s.haltLaw) : t.haltLaw := by
  rw [State.haltLaw_iff] at hs ⊢
  intro c hmust
  rw [hstate c]
  exact hs c ((State.mustHalt_of_sources_eq hsources c).mp hmust)

/-- A write of a channel keeps the law if the state it writes is one the guard layer allows. -/
theorem State.haltLaw_setChan {s : State} {c : ChanId} {v : Channel} (hs : s.haltLaw) (h : s.AllowsState c v.state) :
    (s.setChan c v).haltLaw := by
  rw [State.haltLaw_iff] at hs ⊢
  intro d hmust hon
  have hmust' : s.mustHalt d := hmust
  rw [State.chan_setChan] at hon ⊢
  by_cases hcd : c = d
  · subst hcd
    rw [if_pos rfl] at hon ⊢
    rcases h (State.halts_of_mustHalt hmust') with hoff | hhalt | hsame | ⟨hne, hne'⟩
    · exact absurd hoff hon
    · exact hhalt
    · rw [hsame] at hon ⊢
      exact hs c hmust' hon
    · exact absurd (hs c hmust' hne) hne'
  · rw [if_neg hcd] at hon ⊢
    exact hs d hmust' hon

@[simp] theorem State.state_formed (s : State) (c : ChanId) (v : Channel) : (s.formed c v).state = v.state := rfl

theorem State.state_recompute (s : State) (c d : ChanId) : ((s.recompute c).chan d).state = (s.chan d).state := by
  rw [State.chan_recompute_eq]
  split
  · next h => subst h; rfl
  · rfl

theorem State.haltLaw_driveSteps {s t : State} (h : DriveSteps s t) (hs : s.haltLaw) : t.haltLaw := by
  induction h with
  | refl => exact hs
  | tail _ hstep ih =>
    cases hstep with
    | same hchans hsources => exact State.haltLaw_of_eq hsources (fun c => by rw [State.chan, hchans]; rfl) ih
    | write c v _ _ hallows => exact State.haltLaw_setChan ih hallows
    | recompute c => exact State.haltLaw_of_eq (by simp) (State.state_recompute _ c) ih

/-! ## A layer that is handed to its channels (R136) -/

theorem State.state_applyLayer (s : State) (c : ChanId) :
    ((s.applyLayer c).chan c).state =
      if (s.chan c).state = .off then .off
      else if (s.layer c).halts then .halt
      else if (s.chan c).state = .halt then .idle else (s.chan c).state := by
  rw [State.applyLayer_eq]
  split
  · next hoff => simp [hoff]
  · split
    · next hhalt => split <;> simp [hhalt]
    · split <;> simp [State.enterHalt]

/-- The state of a channel after the layers of a mask have been handed out. -/
theorem State.state_applyMask (s : State) (mask : BitVec 4) (c : ChanId) :
    ((s.applyMask mask).chan c).state =
      if mask.getLsbD c.val then ((s.applyLayer c).chan c).state else (s.chan c).state := by
  rw [(s.applyMask_agrees mask c).chan]
  split <;> rfl

@[simp] theorem State.source_post (s : State) (k : EventKind) (m : Nat) (d : BitVec 16) (n : SourceId) :
    (s.post k m d).source n = s.source n := by simp [State.source]

/-- A source takes a new state, and the layers of its mask are handed out: the law of HALT holds whether the source now
holds its channels or lets them go. -/
theorem State.haltLaw_applyMask {s t : State} {n : SourceId} (hs : s.haltLaw)
    (hsources : ∀ m, m ≠ n → t.source m = s.source m) (hchans : t.chans = s.chans) :
    (t.applyMask (t.source n).mask).haltLaw := by
  rw [State.haltLaw_iff] at hs ⊢
  intro c hmust hon
  replace hmust : t.mustHalt c := (State.mustHalt_of_sources_eq (by simp) c).mp hmust
  have hstate : (t.chan c).state = (s.chan c).state := by rw [State.chan, hchans]; rfl
  rw [State.state_applyMask] at hon ⊢
  split at hon
  · next hbit =>
    rw [if_pos hbit]
    rw [State.state_applyLayer] at hon ⊢
    simp only [State.halts_of_mustHalt hmust, if_true] at hon ⊢
    split at hon
    · exact absurd rfl hon
    · next hoff => rw [if_neg hoff]
  · next hbit =>
    rw [if_neg hbit]
    obtain ⟨m, hm⟩ := hmust
    have hne : m ≠ n := by
      rintro rfl
      exact hbit (Source.holds_iff.mp hm.2.2).2
    rw [hsources m hne] at hm
    rw [hstate] at hon ⊢
    exact hs c ⟨m, hm⟩ hon

theorem State.mustHalt_of_setSource {s : State} {n : SourceId} {src : Source}
    (h : ∀ c, src.halts c → (s.source n).halts c) {c : ChanId} (hmust : (s.setSource n src).mustHalt c) : s.mustHalt c := by
  obtain ⟨m, hm⟩ := hmust
  rw [State.source_setSource] at hm
  split at hm
  · next hnm => exact ⟨n, h c hm⟩
  · exact ⟨m, hm⟩

/-- A source that comes to hold no more channels than before keeps the law. -/
theorem State.haltLaw_setSource {s : State} {n : SourceId} {src : Source} (hs : s.haltLaw)
    (h : ∀ c, src.halts c → (s.source n).halts c) : (s.setSource n src).haltLaw := by
  rw [State.haltLaw_iff] at hs ⊢
  intro c hmust hon
  exact hs c (State.mustHalt_of_setSource h hmust) hon

theorem Source.not_halts_of_state {src : Source} (h : src.state = .inactive ∨ src.state = .qualifying) (c : ChanId) :
    ¬ src.halts c := by
  rintro ⟨-, -, hholds⟩
  obtain ⟨hacts, -⟩ := Source.holds_iff.mp hholds
  rcases h with h | h <;> simp [h] at hacts

theorem State.haltLaw_driveWork {s t : State} (h : DriveWork s t) (hs : s.haltLaw) : t.haltLaw := by
  have hsame {t : State} (hchans : t.chans = s.chans) (hsources : t.sources = s.sources) : t.haltLaw :=
    State.haltLaw_of_eq hsources (fun c => by rw [State.chan, hchans]; rfl) hs
  cases h with
  | mark c v hmarks =>
    have hstate : v.state = (s.chan c).state := by rw [hmarks]
    exact State.haltLaw_setChan hs (hstate ▸ s.allowsState_same c)
  | writeChannel c w => exact State.haltLaw_driveSteps (writeChannel_steps s c w) hs
  | drive d => exact State.haltLaw_driveSteps (setTargets_steps s d) hs
  | stop brake c => exact State.haltLaw_driveSteps (stopChannel_steps brake s c) hs
  | dropTarget c => exact State.haltLaw_setChan hs (s.allowsState_same c)
  | writeProfile pf c o => exact State.haltLaw_driveSteps (writeProfile_steps s pf c o) hs
  | selectProfile pf => exact State.haltLaw_driveSteps (selectProfile_steps s pf) hs
  | ramp c => exact State.haltLaw_driveSteps (tickChannel_steps s c) hs
  | deliver c value => exact State.haltLaw_driveSteps (deliver_steps s c value) hs
  | configure n w =>
    exact State.haltLaw_setSource hs (fun c hc => absurd hc (Source.not_halts_of_state (.inl rfl) c))
  | qualify n =>
    exact State.haltLaw_setSource hs (fun c hc => absurd hc (Source.not_halts_of_state (.inr rfl) c))
  | unqualify n =>
    exact State.haltLaw_setSource hs (fun c hc => absurd hc (Source.not_halts_of_state (.inl rfl) c))
  | latch n htripped =>
    refine State.haltLaw_setSource hs (fun c hc => ?_)
    obtain ⟨hon, haction, hholds⟩ := hc
    exact ⟨hon, haction, Source.holds_iff.mpr ⟨.inl htripped, (Source.holds_iff.mp hholds).2⟩⟩
  | trip n src k m d =>
    have hmask : src.mask = (((s.setSource n src).post k m d).source n).mask := by simp
    rw [hmask]
    exact State.haltLaw_applyMask hs (fun m hm => by simp [State.source_setSource_ne _ _ _ _ (Ne.symm hm)]) (by simp)
  | clear n src =>
    have hmask : src.mask = ((s.setSource n src).source n).mask := by simp
    rw [hmask]
    exact State.haltLaw_applyMask hs (fun m hm => State.source_setSource_ne _ _ _ _ (Ne.symm hm)) (by simp)
  | count u up => exact hsame (by simp) (by simp)
  | armUnit u => exact hsame (by simp) (by simp)
  | disarm u => exact hsame (by simp) (by simp)
  | writeUnit u w => exact hsame (by simp) (by simp)

theorem State.haltLaw_work {s t : State} (h : Work s t) (hs : s.haltLaw) : t.haltLaw := by
  refine work_keeps_of_drive State.haltLaw_driveWork ?_ ?_ h hs
  · intro s t hchans _ _ hsources _
    exact State.haltLaw_of_eq hsources (fun c => by rw [State.chan, hchans]; rfl)
  · intro s t hchan hsource _ _ _ hs
    have hstate (c : ChanId) : (t.chan c).state = (s.chan c).state := by
      obtain ⟨missed, phase, h⟩ := hchan c
      rw [h]
    rw [State.haltLaw_iff] at hs ⊢
    rintro c ⟨n, hn⟩ hon
    obtain ⟨held, hheld⟩ := hsource n
    rw [hheld] at hn
    rw [hstate] at hon ⊢
    exact hs c ⟨n, hn⟩ hon

theorem Channel.decideDwell_state (v : Channel) :
    v.decideDwell.state = v.state ∨ (v.state = .dwell ∧ v.decideDwell.state = .run) := by
  unfold Channel.decideDwell Channel.dwellDecision
  split
  · next hdwell =>
    split
    · split
      · exact .inl rfl
      · exact .inr ⟨hdwell, rfl⟩
    · exact .inr ⟨hdwell, rfl⟩
  · exact .inl rfl

theorem State.haltLaw_boundary {s : State} {c : ChanId} (hon : (s.chan c).state ≠ .off) (hs : s.haltLaw) :
    (s.boundary c).haltLaw := by
  rw [State.boundary_of_enabled hon]
  refine State.haltLaw_setChan (State.haltLaw_driveSteps (takePeriod_steps s c) hs) ?_
  rcases ((s.takePeriod c).chan c).decideDwell_state with h | ⟨h, -⟩
  · exact h ▸ State.allowsState_same _ c
  · exact fun _ => .inr (.inr (.inr (by simp [h])))

/-! ## Source states (R125, R132) -/

/-- The law of R125 and R132 at one source. -/
def Source.lawful (n : SourceId) (src : Source) : Prop :=
  (src.enabled = false → src.state = .inactive) ∧ (pinOf n = none → src.state = .inactive ∨ src.state = .latched)

theorem State.sourceLaw_iff (s : State) : s.sourceLaw ↔ ∀ n, (s.source n).lawful n := Iff.rfl

theorem State.sourceLaw_of_eq {s t : State} (h : t.sources = s.sources) (hs : s.sourceLaw) : t.sourceLaw := by
  simpa only [State.sourceLaw, State.source, h] using hs

theorem State.sourceLaw_setSource {s : State} {n : SourceId} {src : Source} (hs : s.sourceLaw) (h : src.lawful n) :
    (s.setSource n src).sourceLaw := by
  intro m
  rw [State.source_setSource]
  split
  · next hnm => exact hnm ▸ h
  · exact hs m

theorem Source.lawful_of_inactive {n : SourceId} {src : Source} (h : src.state = .inactive) : src.lawful n :=
  ⟨fun _ => h, fun _ => .inl h⟩

/-- An enabled source is legal if it is a pin source, or LATCHED. -/
theorem Source.lawful_of_enabled {n : SourceId} {src : Source} (hon : src.enabled = true)
    (h : src.state = .latched ∨ (pinOf n).isSome = true) : src.lawful n := by
  refine ⟨fun hoff => by simp [hon] at hoff, fun hnone => ?_⟩
  rcases h with h | h
  · exact .inr h
  · simp [hnone] at h

theorem Source.enabled_of_lawful {n : SourceId} {src : Source} (h : src.lawful n) (hne : src.state ≠ .inactive) :
    src.enabled = true := by
  by_contra hoff
  exact hne (h.1 (by simpa using hoff))

theorem State.sourceLaw_driveWork {s t : State} (h : DriveWork s t) (hs : s.sourceLaw) : t.sourceLaw := by
  cases h with
  | configure n w => exact State.sourceLaw_setSource hs (Source.lawful_of_inactive rfl)
  | qualify n hon _ hpin => exact State.sourceLaw_setSource hs (Source.lawful_of_enabled hon (.inr hpin))
  | unqualify n => exact State.sourceLaw_setSource hs (Source.lawful_of_inactive rfl)
  | latch n htripped =>
    have hon := Source.enabled_of_lawful (hs n) (by simp [htripped])
    exact State.sourceLaw_setSource hs (Source.lawful_of_enabled hon (.inl rfl))
  | trip n src k m d hconfig hon hstate =>
    have henabled : src.enabled = true := by
      rcases hon with hon | hne
      · exact hon
      · have hsame : src.enabled = (s.source n).enabled := by rw [hconfig]
        exact hsame.trans (Source.enabled_of_lawful (hs n) hne)
    have hlawful : src.lawful n := Source.lawful_of_enabled henabled (hstate.imp_right And.right)
    exact State.sourceLaw_of_eq (by simp) (State.sourceLaw_setSource (n := n) hs hlawful)
  | clear n src _ hconfig hstate =>
    have hlawful : src.lawful n := by
      rcases hstate with h | ⟨-, hon, hpin⟩
      · exact Source.lawful_of_inactive h
      · exact Source.lawful_of_enabled hon (.inr hpin)
    exact State.sourceLaw_of_eq (by simp) (State.sourceLaw_setSource (n := n) hs hlawful)
  | mark | writeChannel | drive | stop | dropTarget | writeProfile | selectProfile | ramp | deliver | count | armUnit
  | disarm | writeUnit => exact State.sourceLaw_of_eq (by simp) hs

theorem State.sourceLaw_work {s t : State} (h : Work s t) (hs : s.sourceLaw) : t.sourceLaw := by
  refine work_keeps_of_drive State.sourceLaw_driveWork ?_ ?_ h hs
  · intro s t _ _ _ hsources _
    exact State.sourceLaw_of_eq hsources
  · intro s t _ hsource _ _ _ hs n
    obtain ⟨held, hheld⟩ := hsource n
    rw [hheld]
    exact hs n

/-- Settles O9: HALT and the source states are each kept by every work of the drive and by a period boundary. -/
theorem guardLawsKept : Obligations.GuardLawsKept := by
  intro s t h
  refine ⟨fun hs => step_keeps State.haltLaw_work (fun _ => State.haltLaw_boundary) (by decide) h hs,
    fun hs => step_keeps State.sourceLaw_work (fun _ _ hs => State.sourceLaw_of_eq (by simp) hs) (by decide) h hs⟩

end Sys2Proof.Machine
end

section
/-! A direction changes only at a DWELL boundary of a period without a pulse (R93). -/

namespace Sys2Proof.Machine

theorem State.direction_setChan {s : State} {c : ChanId} {v : Channel} (h : v.direction = (s.chan c).direction)
    (d : ChanId) : ((s.setChan c v).chan d).direction = (s.chan d).direction := by
  rw [State.chan_setChan]
  split
  · next hcd => exact hcd ▸ h
  · rfl

theorem State.direction_recompute (s : State) (c d : ChanId) :
    ((s.recompute c).chan d).direction = (s.chan d).direction := by
  rw [State.chan_recompute_eq]
  split
  · next hcd => exact hcd ▸ rfl
  · rfl

theorem State.direction_driveSteps {s t : State} (h : DriveSteps s t) (d : ChanId) :
    (t.chan d).direction = (s.chan d).direction := by
  induction h with
  | refl => rfl
  | tail _ hstep ih =>
    rw [← ih]
    cases hstep with
    | same hchans => rw [State.chan, hchans]; rfl
    | write c v _ hdir => exact State.direction_setChan hdir d
    | recompute c => exact State.direction_recompute _ c d

theorem State.direction_of_chans_eq {s t : State} (h : t.chans = s.chans) (d : ChanId) :
    (t.chan d).direction = (s.chan d).direction := by rw [State.chan, h]; rfl

theorem State.direction_driveWork {s t : State} (h : DriveWork s t) (d : ChanId) :
    (t.chan d).direction = (s.chan d).direction := by
  cases h with
  | mark c v hmarks => exact State.direction_setChan (by rw [hmarks]) d
  | writeChannel c w => exact State.direction_driveSteps (writeChannel_steps s c w) d
  | drive q => exact State.direction_driveSteps (setTargets_steps s q) d
  | stop brake c => exact State.direction_driveSteps (stopChannel_steps brake s c) d
  | dropTarget c => exact State.direction_setChan (by rfl) d
  | writeProfile pf c o => exact State.direction_driveSteps (writeProfile_steps s pf c o) d
  | selectProfile pf => exact State.direction_driveSteps (selectProfile_steps s pf) d
  | ramp c => exact State.direction_driveSteps (tickChannel_steps s c) d
  | deliver c value => exact State.direction_driveSteps (deliver_steps s c value) d
  | trip n src k m w =>
    exact (State.direction_driveSteps (applyMask_steps _ src.mask) d).trans (State.direction_of_chans_eq (by simp) d)
  | clear n src =>
    exact (State.direction_driveSteps (applyMask_steps _ src.mask) d).trans (State.direction_of_chans_eq (by simp) d)
  | configure | qualify | unqualify | latch | count | armUnit | disarm | writeUnit =>
    exact State.direction_of_chans_eq (by simp) d

theorem State.direction_work {s t : State} (h : Work s t) (d : ChanId) :
    (t.chan d).direction = (s.chan d).direction := by
  refine work_keeps_of_drive (P := fun t => (t.chan d).direction = (s.chan d).direction)
    (fun h ih => (State.direction_driveWork h d).trans ih) ?_ ?_ h rfl
  · intro t u hchans _ _ _ _ ih
    exact (State.direction_of_chans_eq hchans d).trans ih
  · intro t u hchan _ _ _ _ ih
    obtain ⟨missed, phase, h⟩ := hchan d
    rw [h]
    exact ih

theorem State.direction_works {s t : State} (h : Works s t) (d : ChanId) :
    (t.chan d).direction = (s.chan d).direction := by
  induction h with
  | refl => rfl
  | tail _ hlast ih => exact (State.direction_work hlast d).trans ih

/-- A period that comes into force leaves the decisions and the direction of its channel (R87). -/
theorem State.chan_takePeriod_marks (s : State) (c : ChanId) :
    ((s.takePeriod c).chan c).state = (s.chan c).state ∧ ((s.takePeriod c).chan c).pulsed = (s.chan c).pulsed ∧
      ((s.takePeriod c).chan c).direction = (s.chan c).direction := by
  unfold State.takePeriod
  split
  · exact ⟨rfl, rfl, rfl⟩
  · simp only [State.chan_recompute_self, State.chan_setChan_self]
    exact ⟨rfl, rfl, rfl⟩

/-- A boundary turns a direction only in DWELL, after a period without a pulse (R93). -/
theorem Channel.direction_decideDwell {v : Channel} (h : v.decideDwell.direction ≠ v.direction) :
    v.state = .dwell ∧ v.pulsed = false := by
  unfold Channel.decideDwell at h
  split at h
  · next hdwell =>
    refine ⟨hdwell, ?_⟩
    unfold Channel.dwellDecision at h
    split at h
    · split at h
      · exact absurd rfl h
      · next hpulsed => simpa using hpulsed
    · exact absurd rfl h
  · exact absurd rfl h

theorem State.direction_boundary {s : State} {c d : ChanId}
    (h : ((s.boundary c).chan d).direction ≠ (s.chan d).direction) :
    c = d ∧ (s.chan d).state = .dwell ∧ (s.chan d).pulsed = false := by
  by_cases hoff : (s.chan c).state = .off
  · simp [State.boundary, hoff] at h
  rw [State.boundary_of_enabled hoff, State.chan_setChan] at h
  by_cases hcd : c = d
  · subst hcd
    obtain ⟨hstate, hpulsed, hdir⟩ := s.chan_takePeriod_marks c
    rw [if_pos rfl, ← hdir] at h
    obtain ⟨hdwell, hzero⟩ := Channel.direction_decideDwell h
    exact ⟨rfl, hstate ▸ hdwell, hpulsed ▸ hzero⟩
  · rw [if_neg hcd] at h
    exact absurd (State.direction_driveSteps (takePeriod_steps s c) d) h

/-- Settles O13: of all that a step does, only a reset and a period boundary touch a direction. -/
theorem directionChangesAfterZeroPeriod : Obligations.DirectionChangesAfterZeroPeriod := by
  intro s t ch h hne
  obtain ⟨-, rfl⟩ | ⟨c, rest, hpending, rfl⟩ := step_cases h
  · exact absurd (State.direction_works (tick_works s) ch) hne
  refine ⟨c, rest, hpending, ?_⟩
  by_cases hreset : s.resets c = true
  · exact .inl hreset
  have hreset' : (s.withRest rest).resets c = false := by
    rw [← Bool.not_eq_true]
    exact hreset
  by_cases hb : ∃ b, c = .periodBoundary b
  · obtain ⟨b, rfl⟩ := hb
    rw [effect_periodBoundary] at hne
    split at hne
    · obtain ⟨rfl, hdwell, hpulsed⟩ := State.direction_boundary (s := s.withRest rest) hne
      exact .inr ⟨rfl, hdwell, hpulsed⟩
    · exact absurd rfl hne
  · exact absurd (State.direction_works (effect_works hreset' fun b e => hb ⟨b, e⟩) ch) hne

end Sys2Proof.Machine
end

section
/-! The laws of OFF and HALT and the ranges of the duty computation (R89, R93, R120), channel by channel: the levels a channel
holds, the pulse of its period, and the magnitude that fits its levels and its effective maximum. -/

namespace Sys2Proof.Machine

/-! ## The law at one channel -/

/-- The levels a channel holds are in range, and at rest in OFF, HALT and IDLE (R89, R90, R120). -/
structure Channel.LevelsOk (c : ChanId) (v : Channel) : Prop where
  target : v.target.natAbs ≤ 1000
  ramped : v.ramped.natAbs ≤ 1000
  fold : v.fold ≤ 1000
  blade : c = 2 → 0 ≤ v.target ∧ 0 ≤ v.ramped
  rest : v.state = .off ∨ v.state = .halt ∨ v.state = .idle → v.target = 0 ∧ v.ramped = 0
  off : v.state = .off → v.fold = 0

/-- The active on-ticks fit their period, and are 0 in OFF, in HALT and in a period that has had no pulse (R89, R93). -/
structure Channel.PulseOk (v : Channel) : Prop where
  fits : v.activeOn ≤ v.period
  rest : v.state = .off ∨ v.state = .halt → v.activeOn = 0
  quiet : v.pulsed = false → v.activeOn = 0

/-- The magnitude fits the ramped level and the maximum, the next on-ticks the period; both are 0 in OFF and HALT
(R89, R120). -/
structure Channel.MagOk (v : Channel) (maximum : Nat) : Prop where
  mag : v.mag ≤ min v.ramped.natAbs maximum
  next : v.nextOn ≤ v.period
  rest : v.state = .off ∨ v.state = .halt → v.mag = 0 ∧ v.nextOn = 0

/-- The laws of R89 and R120 at one channel of a state. -/
structure State.DriveOk (s : State) (c : ChanId) : Prop where
  levels : (s.chan c).LevelsOk c
  pulse : (s.chan c).PulseOk
  mag : (s.chan c).MagOk (s.effMax c)

theorem State.driveOk_iff (s : State) : s.restLaw ∧ s.dutyLaw ↔ ∀ c, s.DriveOk c := by
  constructor
  · rintro ⟨hrest, hduty⟩ c
    obtain ⟨hzero, hoff, hidle, hquiet⟩ := hrest c
    obtain ⟨htarget, hramped, hfold, hmag, hnext, hactive, hblade⟩ := hduty c
    refine ⟨⟨htarget, hramped, hfold, hblade, ?_, hoff⟩, ⟨hactive, ?_, hquiet⟩, ⟨hmag, hnext, ?_⟩⟩
    · rintro (h | h | h)
      · exact ⟨(hzero (.inl h)).1, (hzero (.inl h)).2.1⟩
      · exact ⟨(hzero (.inr h)).1, (hzero (.inr h)).2.1⟩
      · exact hidle h
    · intro h
      obtain ⟨-, -, -, -, hz⟩ := hzero h
      exact hz
    · intro h
      obtain ⟨-, -, hu, hn, -⟩ := hzero h
      exact ⟨hu, hn⟩
  · intro h
    refine ⟨fun c => ?_, fun c => ?_⟩
    · obtain ⟨hl, hp, hm⟩ := h c
      refine ⟨fun hst => ?_, hl.off, fun hst => hl.rest (.inr (.inr hst)), hp.quiet⟩
      have hz := hl.rest (hst.imp_right .inl)
      exact ⟨hz.1, hz.2, (hm.rest hst).1, (hm.rest hst).2, hp.rest hst⟩
    · obtain ⟨hl, hp, hm⟩ := h c
      exact ⟨hl.target, hl.ramped, hl.fold, hm.mag, hm.next, hp.fits, hl.blade⟩

/-! ## What a recompute forms (R117 to R121) -/

/-- A quotient that is at most a bound stays there under every rounding mode (R121). -/
theorem roundDiv_le {x p : Nat} (mode : Rounding) (h : x ≤ p * 1000) : roundDiv mode x 1000 ≤ p := by
  unfold roundDiv
  cases mode <;> dsimp only <;> repeat' split
  all_goals omega

theorem magnitudeOf_le (v : Channel) (maximum : Nat) (cap : Option Nat) :
    magnitudeOf v maximum cap ≤ min v.ramped.natAbs maximum := by
  have hceilings : levelAfterCeilings v maximum cap ≤ min v.ramped.natAbs maximum := by
    cases cap <;> simp only [levelAfterCeilings, levelAfterFold] <;> omega
  unfold magnitudeOf
  split
  · exact Nat.zero_le _
  · exact hceilings

theorem Channel.LevelsOk.magOk_recomputed {c : ChanId} {v : Channel} (h : v.LevelsOk c) (maximum : Nat)
    (cap : Option Nat) : (v.recomputed maximum cap).MagOk maximum := by
  have hle := magnitudeOf_le v maximum cap
  refine ⟨hle, roundDiv_le _ ?_, fun hst => ?_⟩
  · rw [Nat.mul_comm]
    exact Nat.mul_le_mul_left _ (hle.trans ((min_le_left _ _).trans h.ramped))
  · obtain ⟨-, hramped⟩ := h.rest (hst.imp_right .inl)
    rw [Channel.recomputed_of_ramped_zero v maximum cap hramped]
    exact ⟨rfl, rfl⟩

/-- A recompute leaves what the levels are read from. -/
theorem Channel.LevelsOk.formed {c : ChanId} {v : Channel} (h : v.LevelsOk c) (s : State) : (s.formed c v).LevelsOk c :=
  ⟨h.target, h.ramped, h.fold, h.blade, h.rest, h.off⟩

theorem Channel.PulseOk.formed {c : ChanId} {v : Channel} (h : v.PulseOk) (s : State) : (s.formed c v).PulseOk :=
  ⟨h.fits, h.rest, h.quiet⟩

theorem State.effMax_recompute (s : State) (c d : ChanId) : (s.recompute c).effMax d = s.effMax d := by
  simp only [State.effMax, State.overrides, State.recompute_frame, State.chan_recompute_eq]
  split
  · next hcd => subst hcd; rfl
  · rfl

/-- After a recompute the magnitude fits, whatever it was before. -/
theorem State.magOk_recompute {s : State} {c : ChanId} (h : (s.chan c).LevelsOk c) :
    ((s.recompute c).chan c).MagOk ((s.recompute c).effMax c) := by
  rw [State.chan_recompute_self, State.effMax_recompute]
  exact h.magOk_recomputed _ _

theorem State.driveOk_recompute {s : State} {c : ChanId} (hl : (s.chan c).LevelsOk c) (hp : (s.chan c).PulseOk) :
    (s.recompute c).DriveOk c :=
  ⟨s.chan_recompute_self c ▸ hl.formed s, s.chan_recompute_self c ▸ hp.formed s, State.magOk_recompute hl⟩

theorem State.driveOk_setRecompute (s : State) {c : ChanId} {v : Channel} (hl : v.LevelsOk c) (hp : v.PulseOk) :
    ((s.setChan c v).recompute c).DriveOk c :=
  State.driveOk_recompute (by rwa [State.chan_setChan_self]) (by rwa [State.chan_setChan_self])

theorem State.effMax_setChan_self (s : State) {c : ChanId} {v : Channel} (h : v.maxBase = (s.chan c).maxBase) :
    (s.setChan c v).effMax c = s.effMax c := by
  simp only [State.effMax, State.overrides, State.chan_setChan_self, State.setChan_frame, h]

theorem State.driveOk_setChan {s : State} {c : ChanId} {v : Channel} (hbase : v.maxBase = (s.chan c).maxBase)
    (hl : v.LevelsOk c) (hp : v.PulseOk) (hm : v.MagOk (s.effMax c)) : (s.setChan c v).DriveOk c := by
  refine ⟨?_, ?_, ?_⟩
  · rwa [State.chan_setChan_self]
  · rwa [State.chan_setChan_self]
  · rwa [State.chan_setChan_self, State.effMax_setChan_self s hbase]

/-! ## The law of a channel is read at that channel -/

theorem State.AgreesAt.driveOk {c : ChanId} {s t : State} (h : s.AgreesAt c t) (hs : s.DriveOk c) : t.DriveOk c := by
  have heff : t.effMax c = s.effMax c := by simp only [State.effMax, State.overrides, h.chan, h.profiles, h.activeProfile]
  refine ⟨?_, ?_, ?_⟩
  · rw [h.chan]; exact hs.levels
  · rw [h.chan]; exact hs.pulse
  · rw [h.chan, heff]; exact hs.mag

theorem State.agreesAt_of_eq {s t : State} (hchans : t.chans = s.chans) (hcounters : t.counters = s.counters)
    (hprofiles : t.profiles = s.profiles) (hactive : t.activeProfile = s.activeProfile) (hsources : t.sources = s.sources)
    (hclock : t.clock = s.clock) (c : ChanId) : s.AgreesAt c t :=
  ⟨by rw [State.chan, hchans]; rfl, fun u _ => by rw [State.counter, hcounters]; rfl, hprofiles, hactive, hsources, hclock⟩

/-- Two states agree at every channel but one. -/
def State.AgreesOff (c : ChanId) (s t : State) : Prop := ∀ d, c ≠ d → s.AgreesAt d t

theorem State.AgreesOff.trans {c : ChanId} {s t u : State} (h : s.AgreesOff c t) (h' : t.AgreesOff c u) :
    s.AgreesOff c u := fun d hd => (h d hd).trans (h' d hd)

theorem State.AgreesOff.refl (c : ChanId) (s : State) : s.AgreesOff c s := fun d _ => .refl d s

theorem LocalWork.agreesOff {f : State → ChanId → State} (hf : LocalWork f) (s : State) (c : ChanId) :
    s.AgreesOff c (f s c) := hf.elsewhere s c

theorem State.agreesOff_setChan (s : State) (c : ChanId) (v : Channel) : s.AgreesOff c (s.setChan c v) :=
  (LocalWork.set (F := fun _ _ => v) (fun _ _ _ _ => rfl)).agreesOff s c

theorem State.agreesOff_setRecompute (s : State) (c : ChanId) (v : Channel) :
    s.AgreesOff c ((s.setChan c v).recompute c) :=
  (s.agreesOff_setChan c v).trans (LocalWork.recompute.agreesOff _ c)

/-- A work that changes one channel keeps the law if it keeps it there. -/
theorem State.driveOk_of_agreesOff {c : ChanId} {s t : State} (h : s.AgreesOff c t) (hs : ∀ d, s.DriveOk d)
    (hc : t.DriveOk c) (d : ChanId) : t.DriveOk d := by
  by_cases hcd : c = d
  · exact hcd ▸ hc
  · exact (h d hcd).driveOk (hs d)

end Sys2Proof.Machine
end

section
/-! Every work of the drive keeps the laws of R89, R93 and R120. -/

namespace Sys2Proof.Machine

/-! ## SET-CHANNEL (R85, R90, R111) -/

theorem State.agreesOff_takePeriod (s : State) (c : ChanId) : s.AgreesOff c (s.takePeriod c) := by
  unfold State.takePeriod
  split
  · exact .refl c s
  · exact s.agreesOff_setRecompute c _

theorem State.agreesOff_enableChannel (s : State) (c : ChanId) : s.AgreesOff c (s.enableChannel c) :=
  (s.agreesOff_setChan c _).trans (State.agreesOff_takePeriod _ c)

theorem State.agreesOff_writeEnable (s : State) (c : ChanId) (enable : Option Bool) :
    s.AgreesOff c (s.writeEnable c enable) := by
  unfold State.writeEnable
  split
  · exact .refl c s
  · split
    · exact s.agreesOff_enableChannel c
    · exact .refl c s
  · split
    · exact .refl c s
    · exact s.agreesOff_setRecompute c _

theorem State.agreesOff_afterChannelWrite (s : State) (c : ChanId) (w : ChannelWrite) :
    s.AgreesOff c (s.afterChannelWrite c w) := by
  unfold State.afterChannelWrite
  repeat' split
  · exact LocalWork.reformed.agreesOff s c
  · exact LocalWork.recompute.agreesOff s c
  · exact .refl c s

theorem State.agreesAt_writeHoldTime (s : State) (c : ChanId) (time : Option Nat) (d : ChanId) :
    s.AgreesAt d (s.writeHoldTime c time) :=
  State.agreesAt_of_eq (by simp) (by simp) (by simp) (by simp) (by simp) (by simp) d

theorem State.agreesOff_writeChannel (s : State) (c : ChanId) (w : ChannelWrite) : s.AgreesOff c (s.writeChannel c w) :=
  (((s.agreesOff_setChan c _).trans fun d _ => State.agreesAt_writeHoldTime _ c _ d).trans
    (State.agreesOff_writeEnable _ c _)).trans (State.agreesOff_afterChannelWrite _ c w)

/-- The levels and the pulse of a channel are in order; the magnitude may be out of date. -/
structure State.DrivenAt (s : State) (c : ChanId) : Prop where
  levels : (s.chan c).LevelsOk c
  pulse : (s.chan c).PulseOk

theorem State.DriveOk.driven {s : State} {c : ChanId} (h : s.DriveOk c) : s.DrivenAt c := ⟨h.levels, h.pulse⟩

theorem State.DrivenAt.recompute {s : State} {c : ChanId} (h : s.DrivenAt c) : (s.recompute c).DriveOk c :=
  State.driveOk_recompute h.levels h.pulse

theorem State.DrivenAt.reformed {s : State} {c : ChanId} (h : s.DrivenAt c) : (s.reformed c).DriveOk c := by
  unfold State.reformed
  split
  · exact State.driveOk_setRecompute s
      ⟨h.levels.target, h.levels.ramped, Nat.zero_le _, h.levels.blade, h.levels.rest, fun _ => rfl⟩
      ⟨h.pulse.fits, h.pulse.rest, h.pulse.quiet⟩
  · exact h.recompute

/-- The fields of a SET-CHANNEL leave levels and pulse (R85). -/
theorem Channel.LevelsOk.written {c : ChanId} {v : Channel} (h : v.LevelsOk c) (w : ChannelWrite) :
    (v.written w).LevelsOk c := ⟨h.target, h.ramped, h.fold, h.blade, h.rest, h.off⟩

theorem Channel.PulseOk.written {v : Channel} (h : v.PulseOk) (w : ChannelWrite) : (v.written w).PulseOk :=
  ⟨h.fits, h.rest, h.quiet⟩

theorem Channel.MagOk.written {v : Channel} {maximum : Nat} (h : v.MagOk maximum) (w : ChannelWrite) :
    (v.written w).MagOk maximum := ⟨h.mag, h.next, h.rest⟩

/-- The channel that an enable makes of one in OFF stands at rest (R90). -/
theorem Channel.LevelsOk.enabled {c : ChanId} {v : Channel} (h : v.LevelsOk c) (hoff : v.state = .off) (st : ChanState) :
    ({ v with state := st, phase := 0, pulsed := false } : Channel).LevelsOk c :=
  ⟨h.target, h.ramped, h.fold, h.blade, fun _ => h.rest (.inl hoff), fun _ => h.off hoff⟩

theorem Channel.PulseOk.enabled {v : Channel} (h : v.PulseOk) (hoff : v.state = .off) (st : ChanState) :
    ({ v with state := st, phase := 0, pulsed := false } : Channel).PulseOk :=
  ⟨h.fits, fun _ => h.rest (.inl hoff), fun _ => h.rest (.inl hoff)⟩

theorem Channel.MagOk.enabled {v : Channel} {maximum : Nat} (h : v.MagOk maximum) (hoff : v.state = .off)
    (st : ChanState) : ({ v with state := st, phase := 0, pulsed := false } : Channel).MagOk maximum :=
  ⟨h.mag, h.next, fun _ => h.rest (.inl hoff)⟩

/-- A channel without a running pulse takes any period (R87). -/
theorem State.takePeriod_cases {s : State} {c : ChanId} (h : s.DrivenAt c) (hzero : (s.chan c).activeOn = 0) :
    s.takePeriod c = s ∨ (s.takePeriod c).DriveOk c := by
  unfold State.takePeriod
  split
  · exact .inl rfl
  · refine .inr (State.driveOk_setRecompute s
      ⟨h.levels.target, h.levels.ramped, h.levels.fold, h.levels.blade, h.levels.rest, h.levels.off⟩
      ⟨?_, h.pulse.rest, h.pulse.quiet⟩)
    exact hzero.le.trans (Nat.zero_le _)

theorem State.driveOk_disableChannel (s : State) (c : ChanId) : (s.disableChannel c).DriveOk c :=
  State.driveOk_setRecompute s
    ⟨Nat.zero_le _, Nat.zero_le _, Nat.zero_le _, fun _ => ⟨le_rfl, le_rfl⟩, fun _ => ⟨rfl, rfl⟩, fun _ => rfl⟩
    ⟨Nat.zero_le _, fun _ => rfl, fun _ => rfl⟩

theorem State.DrivenAt.enableChannel {s : State} {c : ChanId} (h : s.DrivenAt c) (hoff : (s.chan c).state = .off) :
    (s.enableChannel c).DrivenAt c ∧ (s.DriveOk c → (s.enableChannel c).DriveOk c) := by
  have hlevels := h.levels.enabled hoff (if (s.layer c).halts then .halt else .idle)
  have hpulse := h.pulse.enabled hoff (if (s.layer c).halts then .halt else .idle)
  have hdriven : (s.setChan c { s.chan c with
      state := if (s.layer c).halts then .halt else .idle, phase := 0, pulsed := false }).DrivenAt c :=
    ⟨by rwa [State.chan_setChan_self], by rwa [State.chan_setChan_self]⟩
  have hzero : (s.chan c).activeOn = 0 := h.pulse.rest (.inl hoff)
  unfold State.enableChannel
  rcases State.takePeriod_cases hdriven (by rw [State.chan_setChan_self]; exact hzero) with heq | hok
  · simp only [heq]
    exact ⟨hdriven, fun hs => State.driveOk_setChan rfl hlevels hpulse (hs.mag.enabled hoff _)⟩
  · exact ⟨hok.driven, fun _ => hok⟩

theorem State.DrivenAt.writeEnable {s : State} {c : ChanId} (h : s.DrivenAt c) (enable : Option Bool) :
    (s.writeEnable c enable).DrivenAt c ∧ (s.DriveOk c → (s.writeEnable c enable).DriveOk c) := by
  unfold State.writeEnable
  split
  · exact ⟨h, id⟩
  · split
    · next hoff => exact h.enableChannel hoff
    · exact ⟨h, id⟩
  · split
    · exact ⟨h, id⟩
    · exact ⟨(s.driveOk_disableChannel c).driven, fun _ => s.driveOk_disableChannel c⟩

/-- A SET-CHANNEL forms the magnitude afresh when it has written what the magnitude must fit (R111). -/
theorem State.driveOk_writeChannel {s : State} {c : ChanId} (h : s.DriveOk c) (w : ChannelWrite) :
    (s.writeChannel c w).DriveOk c := by
  have hagrees := State.agreesAt_writeHoldTime (s.setChan c ((s.chan c).written w)) c w.holdTime c
  have hdriven : ((s.setChan c ((s.chan c).written w)).writeHoldTime c w.holdTime).DrivenAt c := by
    constructor
    · rw [hagrees.chan, State.chan_setChan_self]; exact h.levels.written w
    · rw [hagrees.chan, State.chan_setChan_self]; exact h.pulse.written w
  obtain ⟨hdriven', hok⟩ := hdriven.writeEnable w.enable
  unfold State.writeChannel State.afterChannelWrite
  split
  · exact hdriven'.reformed
  · next hbases =>
    split
    · exact hdriven'.recompute
    · have hbase : w.maxBase = none := by
        cases hw : w.maxBase with
        | none => rfl
        | some m => simp [hw] at hbases
      refine hok (hagrees.driveOk (State.driveOk_setChan ?_ (h.levels.written w) (h.pulse.written w)
        (h.mag.written w)))
      simp [Channel.written, hbase]

/-! ## DRIVE, STOP-ALL, the ramp and the feedback -/

theorem clampTarget_range (c : ChanId) (t : Int) :
    (clampTarget c t).natAbs ≤ 1000 ∧ (c = 2 → 0 ≤ clampTarget c t) := by
  unfold clampTarget
  split
  · exact ⟨by omega, fun _ => by omega⟩
  · next hne => exact ⟨by omega, fun hc => absurd hc hne⟩

/-- A target in range is taken by a channel that is not OFF, and in HALT only as 0 (R96, R97). -/
theorem State.driveOk_driven {s : State} {c : ChanId} (h : s.DriveOk c) {t : Int} (hoff : (s.chan c).state ≠ .off)
    (hhalt : (s.chan c).state = .halt → t = 0) (hrange : t.natAbs ≤ 1000) (hblade : c = 2 → 0 ≤ t) :
    (s.setChan c ((s.chan c).driven t)).DriveOk c := by
  obtain ⟨hl, hp, hm⟩ := h
  unfold Channel.driven
  split
  · refine State.driveOk_setChan rfl
      ⟨hrange, hl.ramped, hl.fold, fun hc => ⟨hblade hc, (hl.blade hc).2⟩, ?_, ?_⟩
      ⟨hp.fits, ?_, hp.quiet⟩ ⟨hm.mag, hm.next, ?_⟩ <;> simp
  · next hstart =>
    refine State.driveOk_setChan rfl
      ⟨hrange, hl.ramped, hl.fold, fun hc => ⟨hblade hc, (hl.blade hc).2⟩, fun hst => ⟨?_, (hl.rest hst).2⟩,
        fun hst => absurd hst hoff⟩
      ⟨hp.fits, hp.rest, hp.quiet⟩ ⟨hm.mag, hm.next, hm.rest⟩
    rcases hst with hst | hst | hst
    · exact absurd hst hoff
    · exact hhalt hst
    · exact by_contra fun hne => hstart ⟨hst, hne⟩

theorem mem_allChans (c : ChanId) : c ∈ allChans := by
  revert c
  decide

theorem State.state_ne_off_of_driveNamesOff {s : State} {d : DriveRequest} (h : s.driveNamesOff d = false) {c : ChanId}
    (hc : d.names c = true) : (s.chan c).state ≠ .off := by
  intro hoff
  simp only [State.driveNamesOff, List.any_eq_false] at h
  exact h c (mem_allChans c) (by simp [hc, hoff])

theorem State.target_eq_zero_of_driveGuarded {s : State} {d : DriveRequest} (h : s.driveGuarded d = false) {c : ChanId}
    (hc : d.names c = true) (hhalt : (s.chan c).state = .halt) : d.target c = 0 := by
  by_contra hne
  simp only [State.driveGuarded, List.any_eq_false] at h
  exact h c (mem_allChans c) (by simp [hc, hhalt, hne])

theorem State.driveOk_setTargets {s : State} {d : DriveRequest} (hoff : s.driveNamesOff d = false)
    (hguarded : s.driveGuarded d = false) {c : ChanId} (h : s.DriveOk c) : (s.setTargets d).DriveOk c := by
  refine (s.setTargets_agrees d c).driveOk ?_
  split
  · next hnamed =>
    obtain ⟨hrange, hblade⟩ := clampTarget_range c (d.targets.get c)
    exact State.driveOk_driven h (State.state_ne_off_of_driveNamesOff hoff hnamed)
      (State.target_eq_zero_of_driveGuarded hguarded hnamed) hrange hblade
  · exact h

/-- A channel whose levels fall to zero keeps the law. -/
theorem State.driveOk_zeroDrive {s : State} {c : ChanId} (h : s.DriveOk c) : (s.zeroDrive c).DriveOk c :=
  State.driveOk_setRecompute s
    ⟨Nat.zero_le _, Nat.zero_le _, h.levels.fold, fun _ => ⟨le_rfl, le_rfl⟩, fun _ => ⟨rfl, rfl⟩, h.levels.off⟩
    ⟨h.pulse.fits, h.pulse.rest, h.pulse.quiet⟩

/-- A channel that changes in its marks only keeps the law. -/
theorem State.driveOk_setMarks {s : State} {c : ChanId} {v : Channel} (h : s.DriveOk c)
    (hmarks : v.SameButMarks (s.chan c)) : (s.setChan c v).DriveOk c := by
  obtain ⟨hl, hp, hm⟩ := h
  rw [hmarks]
  exact State.driveOk_setChan rfl ⟨hl.target, hl.ramped, hl.fold, hl.blade, hl.rest, hl.off⟩
    ⟨hp.fits, hp.rest, hp.quiet⟩ ⟨hm.mag, hm.next, hm.rest⟩

theorem State.driveOk_stopChannel {s : State} {c : ChanId} (brake : Bool) (h : s.DriveOk c) :
    (State.stopChannel brake s c).DriveOk c := by
  cases brake with
  | false => exact State.driveOk_zeroDrive h
  | true => exact State.driveOk_setMarks (State.driveOk_zeroDrive h) (by rfl)

theorem State.driveOk_dropTarget {s : State} {c : ChanId} (h : s.DriveOk c) :
    (s.setChan c { s.chan c with target := 0 }).DriveOk c := by
  obtain ⟨hl, hp, hm⟩ := h
  exact State.driveOk_setChan rfl
    ⟨Nat.zero_le _, hl.ramped, hl.fold, fun hc => ⟨le_rfl, (hl.blade hc).2⟩, fun hst => ⟨rfl, (hl.rest hst).2⟩, hl.off⟩
    ⟨hp.fits, hp.rest, hp.quiet⟩ ⟨hm.mag, hm.next, hm.rest⟩

/-- A ramp step stays between the ramped level and the target (R107). -/
theorem rampStep_range {target ramped : Int} (slew : Nat) (ht : target.natAbs ≤ 1000) (hr : ramped.natAbs ≤ 1000) :
    (rampStep target ramped slew).natAbs ≤ 1000 ∧ (0 ≤ target → 0 ≤ ramped → 0 ≤ rampStep target ramped slew) := by
  unfold rampStep
  repeat' split
  all_goals omega

theorem State.driveOk_rampChannel {s : State} {c : ChanId} (h : s.DriveOk c)
    (hmoves : (s.chan c).state = .run ∨ (s.chan c).state = .dwell) : (s.rampChannel c).DriveOk c := by
  obtain ⟨hl, hp, -⟩ := id h
  unfold State.rampChannel
  dsimp only
  split
  · exact h
  · obtain ⟨hrange, hsign⟩ := rampStep_range (s.effSlew c) hl.target hl.ramped
    refine State.driveOk_setRecompute s
      ⟨hl.target, hrange, hl.fold, fun hc => ⟨(hl.blade hc).1, hsign (hl.blade hc).1 (hl.blade hc).2⟩, ?_, hl.off⟩
      ⟨hp.fits, hp.rest, hp.quiet⟩
    rcases hmoves with hst | hst <;> simp [hst]

theorem State.state_rampChannel (s : State) (c : ChanId) : ((s.rampChannel c).chan c).state = (s.chan c).state := by
  unfold State.rampChannel
  dsimp only
  split
  · rfl
  · simp

/-- A channel enters IDLE at a ramp tick only with T and R 0 (R91). -/
theorem Channel.tickState_moving {v : Channel} {c : ChanId} (h : v.state = .run ∨ v.state = .dwell) :
    (v.tickState c = .idle ∧ v.target = 0 ∧ v.ramped = 0) ∨ v.tickState c = .run ∨ v.tickState c = .dwell := by
  unfold Channel.tickState
  rcases h with h | h
  · simp only [h]
    split
    · next hzero => exact .inl ⟨rfl, hzero⟩
    · split
      · exact .inr (.inr rfl)
      · exact .inr (.inl rfl)
  · simp [h]

theorem State.driveOk_decideState {s : State} {c : ChanId} (h : s.DriveOk c)
    (hmoves : (s.chan c).state = .run ∨ (s.chan c).state = .dwell) : (s.decideState c).DriveOk c := by
  obtain ⟨hl, hp, hm⟩ := h
  have hcases := Channel.tickState_moving (c := c) hmoves
  have hnotRest : ¬ ((s.chan c).tickState c = .off ∨ (s.chan c).tickState c = .halt) := by
    rcases hcases with ⟨h, -⟩ | h | h <;> simp [h]
  refine State.driveOk_setChan rfl
    ⟨hl.target, hl.ramped, hl.fold, hl.blade, ?_, fun hst => absurd (.inl hst) hnotRest⟩
    ⟨hp.fits, fun hst => absurd hst hnotRest, hp.quiet⟩ ⟨hm.mag, hm.next, fun hst => absurd hst hnotRest⟩
  rcases hcases with ⟨-, hzero⟩ | h | h
  · exact fun _ => hzero
  · simp [h]
  · simp [h]

theorem State.driveOk_tickChannel {s : State} {c : ChanId} (h : s.DriveOk c) : (s.tickChannel c).DriveOk c := by
  rw [State.tickChannel_eq]
  split
  · next hmoves =>
    exact State.driveOk_decideState (State.driveOk_rampChannel h hmoves) (by rwa [State.state_rampChannel])
  · exact h

theorem foldUpdate_le {limit gain relax fold value : Nat} (mode : Rounding) (h : fold ≤ 1000) :
    foldUpdate limit gain relax fold mode value ≤ 1000 := by
  unfold foldUpdate
  repeat' split
  all_goals omega

theorem State.agreesAt_postLimit (s : State) (c : ChanId) (before fold : Nat) (value : Count) (d : ChanId) :
    s.AgreesAt d (s.postLimit c before fold value) :=
  State.agreesAt_of_eq (by simp) (by simp) (by simp) (by simp) (by simp) (by simp) d

theorem State.driveOk_deliver {s : State} {c : ChanId} (h : s.DriveOk c) (value : Count) : (s.deliver c value).DriveOk c := by
  unfold State.deliver
  dsimp only
  split
  · exact h
  · next hoff =>
    obtain ⟨hl, hp, -⟩ := h
    refine (State.agreesAt_postLimit _ c _ _ value c).driveOk (State.driveOk_setRecompute s
      ⟨hl.target, hl.ramped, foldUpdate_le _ hl.fold, hl.blade, hl.rest, fun hst => absurd hst hoff⟩
      ⟨hp.fits, hp.rest, hp.quiet⟩)

theorem State.agreesOff_deliver (s : State) (c : ChanId) (value : Count) : s.AgreesOff c (s.deliver c value) := by
  unfold State.deliver
  dsimp only
  split
  · exact .refl c s
  · exact (s.agreesOff_setRecompute c _).trans fun d _ => State.agreesAt_postLimit _ c _ _ value d

/-! ## The guard layers and the profiles -/

theorem State.driveOk_applyLayer {s : State} {c : ChanId} (h : s.DriveOk c) : (s.applyLayer c).DriveOk c := by
  obtain ⟨hl, hp, -⟩ := id h
  have hhalt : (s.enterHalt c).DriveOk c := State.driveOk_setRecompute s
    ⟨Nat.zero_le _, Nat.zero_le _, hl.fold, fun _ => ⟨le_rfl, le_rfl⟩, fun _ => ⟨rfl, rfl⟩, by simp⟩
    ⟨Nat.zero_le _, fun _ => rfl, fun _ => rfl⟩
  rw [State.applyLayer_eq]
  split
  · exact h
  · split
    · next hst =>
      split
      · exact h.driven.recompute
      · exact State.driveOk_setRecompute s
          ⟨hl.target, hl.ramped, hl.fold, hl.blade, fun _ => hl.rest (.inr (.inl hst)), by simp⟩
          ⟨hp.fits, by simp, hp.quiet⟩
    · split
      · exact hhalt
      · exact h.driven.recompute

theorem State.driveOk_applyMask {s : State} {mask : BitVec 4} {c : ChanId} (h : s.DriveOk c) :
    (s.applyMask mask).DriveOk c := by
  refine (s.applyMask_agrees mask c).driveOk ?_
  split
  · exact State.driveOk_applyLayer h
  · exact h

/-- The profiles and the sources do not bear on levels and pulse. -/
theorem State.DriveOk.driven_of_chans_eq {s t : State} {c : ChanId} (h : s.DriveOk c) (hchans : t.chans = s.chans) :
    t.DrivenAt c := by
  have hchan : t.chan c = s.chan c := by rw [State.chan, hchans]; rfl
  exact ⟨hchan ▸ h.levels, hchan ▸ h.pulse⟩

theorem State.DriveOk.of_effMax_eq {s t : State} {c : ChanId} (h : s.DriveOk c) (hchan : t.chan c = s.chan c)
    (heff : t.effMax c = s.effMax c) : t.DriveOk c := by
  refine ⟨?_, ?_, ?_⟩
  · rw [hchan]; exact h.levels
  · rw [hchan]; exact h.pulse
  · rw [hchan, heff]; exact h.mag

theorem State.overrides_setOverrides (s : State) (pf : Fin 4) (c d : ChanId) (o : Overrides) :
    (s.setOverrides pf c o).overrides d = if pf = s.activeProfile ∧ c = d then o else s.overrides d := by
  simp only [State.overrides, State.setOverrides, Table.get_put]
  by_cases hpf : pf = s.activeProfile
  · by_cases hcd : c = d <;> simp [hpf, hcd, Table.get_put]
  · simp [hpf]

theorem State.driveOk_setOverrides {s : State} {pf : Fin 4} {c d : ChanId} (o : Overrides) (h : s.DriveOk d)
    (hne : ¬ (pf = s.activeProfile ∧ c = d)) : (s.setOverrides pf c o).DriveOk d := by
  have hchan : (s.setOverrides pf c o).chan d = s.chan d := by simp [State.chan]
  refine h.of_effMax_eq hchan ?_
  rw [State.effMax, State.overrides_setOverrides, if_neg hne, hchan]
  rfl

theorem State.driveOk_writeProfile {s : State} (pf : Fin 4) (c : ChanId) (o : Overrides) (hs : ∀ d, s.DriveOk d)
    (d : ChanId) : (s.writeProfile pf c o).DriveOk d := by
  unfold State.writeProfile
  dsimp only
  split
  · by_cases hcd : c = d
    · subst hcd
      exact ((hs c).driven_of_chans_eq (by simp)).reformed
    · exact ((LocalWork.reformed.agreesOff _ c) d hcd).driveOk
        (State.driveOk_setOverrides o (hs d) fun h => hcd h.2)
  · next hpf => exact State.driveOk_setOverrides o (hs d) fun h => hpf h.1

theorem State.driveOk_selectProfile {s : State} (pf : Fin 4) {d : ChanId} (h : s.DriveOk d) :
    (s.selectProfile pf).DriveOk d :=
  (LocalWork.reformed.pass _ d).driveOk (State.DrivenAt.reformed (h.driven_of_chans_eq rfl))

/-! ## Every work, every boundary, every step -/

theorem State.driveOk_driveWork {s t : State} (h : DriveWork s t) (hs : ∀ c, s.DriveOk c) (d : ChanId) : t.DriveOk d := by
  have hsame {t : State} (hchans : t.chans = s.chans) (hprofiles : t.profiles = s.profiles)
      (hactive : t.activeProfile = s.activeProfile) : t.DriveOk d := by
    have hchan : t.chan d = s.chan d := by rw [State.chan, hchans]; rfl
    exact (hs d).of_effMax_eq hchan (by simp only [State.effMax, State.overrides, hchan, hprofiles, hactive])
  cases h with
  | mark c v hmarks =>
    exact State.driveOk_of_agreesOff (s.agreesOff_setChan c v) hs (State.driveOk_setMarks (hs c) hmarks) d
  | writeChannel c w =>
    exact State.driveOk_of_agreesOff (s.agreesOff_writeChannel c w) hs (State.driveOk_writeChannel (hs c) w) d
  | drive q hoff hguarded => exact State.driveOk_setTargets hoff hguarded (hs d)
  | stop brake c =>
    exact State.driveOk_of_agreesOff ((LocalWork.stopChannel brake).agreesOff s c) hs
      (State.driveOk_stopChannel brake (hs c)) d
  | dropTarget c =>
    exact State.driveOk_of_agreesOff (s.agreesOff_setChan c _) hs (State.driveOk_dropTarget (hs c)) d
  | writeProfile pf c o => exact State.driveOk_writeProfile pf c o hs d
  | selectProfile pf => exact State.driveOk_selectProfile pf (hs d)
  | ramp c =>
    exact State.driveOk_of_agreesOff (LocalWork.tickChannel.agreesOff s c) hs (State.driveOk_tickChannel (hs c)) d
  | deliver c value =>
    exact State.driveOk_of_agreesOff (s.agreesOff_deliver c value) hs (State.driveOk_deliver (hs c) value) d
  | trip n src k m w => exact State.driveOk_applyMask (hsame (by simp) (by simp) (by simp))
  | clear n src => exact State.driveOk_applyMask (hsame (by simp) (by simp) (by simp))
  | configure | qualify | unqualify | latch | count | armUnit | disarm | writeUnit =>
    exact hsame (by simp) (by simp) (by simp)

theorem State.driveOk_work {s t : State} (h : Work s t) (hs : ∀ c, s.DriveOk c) : ∀ c, t.DriveOk c := by
  refine work_keeps_of_drive (P := fun s => ∀ c, s.DriveOk c) State.driveOk_driveWork ?_ ?_ h hs
  · intro s t hchans hprofiles hactive _ _ hs c
    have hchan : t.chan c = s.chan c := by rw [State.chan, hchans]; rfl
    exact (hs c).of_effMax_eq hchan (by simp only [State.effMax, State.overrides, hchan, hprofiles, hactive])
  · intro s t hchan _ hprofiles hactive _ hs c
    obtain ⟨missed, phase, hc⟩ := hchan c
    obtain ⟨hl, hp, hm⟩ := hs c
    refine ⟨?_, ?_, ?_⟩
    · rw [hc]; exact ⟨hl.target, hl.ramped, hl.fold, hl.blade, hl.rest, hl.off⟩
    · rw [hc]; exact ⟨hp.fits, hp.rest, hp.quiet⟩
    · have heff : t.effMax c = s.effMax c := by simp only [State.effMax, State.overrides, hc, hprofiles, hactive]
      rw [heff, hc]
      exact ⟨hm.mag, hm.next, hm.rest⟩

/-- What a boundary finds of levels and magnitude once a pending period has come into force (R87 step 1). -/
theorem State.takePeriod_levels_mag {s : State} {c : ChanId} (h : s.DriveOk c) :
    ((s.takePeriod c).chan c).LevelsOk c ∧ ((s.takePeriod c).chan c).MagOk ((s.takePeriod c).effMax c) := by
  unfold State.takePeriod
  split
  · exact ⟨h.levels, h.mag⟩
  · next p _ =>
    have hl : ({ s.chan c with period := p, pendingPeriod := none } : Channel).LevelsOk c :=
      ⟨h.levels.target, h.levels.ramped, h.levels.fold, h.levels.blade, h.levels.rest, h.levels.off⟩
    refine ⟨?_, State.magOk_recompute (by rwa [State.chan_setChan_self])⟩
    rw [State.chan_recompute_self, State.chan_setChan_self]
    exact hl.formed _

/-- The decision in DWELL touches state and direction only, and leaves DWELL for RUN (R93). -/
theorem Channel.decideDwell_eq (v : Channel) :
    ∃ st dir, v.decideDwell = { v with state := st, direction := dir } ∧ (st = v.state ∨ st = .run) := by
  unfold Channel.decideDwell Channel.dwellDecision
  repeat' split
  · exact ⟨_, _, rfl, .inl rfl⟩
  · exact ⟨_, _, rfl, .inr rfl⟩
  · exact ⟨_, _, rfl, .inr rfl⟩
  · exact ⟨_, _, rfl, .inl rfl⟩

theorem Channel.LevelsOk.decideDwell {c : ChanId} {v : Channel} (h : v.LevelsOk c) : v.decideDwell.LevelsOk c := by
  obtain ⟨st, dir, heq, hst⟩ := v.decideDwell_eq
  rw [heq]
  rcases hst with rfl | rfl
  · exact ⟨h.target, h.ramped, h.fold, h.blade, h.rest, h.off⟩
  · exact ⟨h.target, h.ramped, h.fold, h.blade, by simp, by simp⟩

theorem Channel.MagOk.decideDwell {maximum : Nat} {v : Channel} (h : v.MagOk maximum) : v.decideDwell.MagOk maximum := by
  obtain ⟨st, dir, heq, hst⟩ := v.decideDwell_eq
  rw [heq]
  rcases hst with rfl | rfl
  · exact ⟨h.mag, h.next, h.rest⟩
  · exact ⟨h.mag, h.next, by simp⟩

/-- The on-ticks that a boundary loads fit the period (R87 step 3). -/
theorem Channel.MagOk.pulseOk_load {maximum : Nat} {v : Channel} (h : v.MagOk maximum) : v.load.PulseOk := by
  have hle : (if v.state = .dwell then 0 else v.nextOn) ≤ v.nextOn := by split <;> omega
  refine ⟨hle.trans h.next, fun hst => ?_, fun hquiet => ?_⟩
  · have hnext : v.nextOn = 0 := (h.rest hst).2
    exact Nat.le_zero.mp (hle.trans hnext.le)
  · simpa [Channel.load] using hquiet

theorem State.driveOk_boundary {s : State} {c : ChanId} (hon : (s.chan c).state ≠ .off) (hs : ∀ d, s.DriveOk d) (d : ChanId) :
    (s.boundary c).DriveOk d := by
  rw [State.boundary_of_enabled hon]
  obtain ⟨hl, hm⟩ := State.takePeriod_levels_mag (hs c)
  have hbase (v : Channel) : v.decideDwell.load.maxBase = v.maxBase := by
    obtain ⟨st, dir, heq, -⟩ := v.decideDwell_eq
    rw [heq]
    rfl
  refine State.driveOk_of_agreesOff ((s.agreesOff_takePeriod c).trans (State.agreesOff_setChan _ c _)) hs ?_ d
  have hl' := hl.decideDwell
  have hm' := hm.decideDwell
  exact State.driveOk_setChan (hbase _) ⟨hl'.target, hl'.ramped, hl'.fold, hl'.blade, hl'.rest, hl'.off⟩
    hm'.pulseOk_load ⟨hm'.mag, hm'.next, hm'.rest⟩

/-- Settles O8: the laws channel by channel, kept by every work of the drive and by a period boundary. -/
theorem driveLawsKept : Obligations.DriveLawsKept := by
  intro s t h hs
  rw [State.driveOk_iff] at hs ⊢
  have hreset : ∀ c, State.reset.DriveOk c := (State.driveOk_iff State.reset).mp (by decide)
  exact step_keeps (P := fun s => ∀ c, s.DriveOk c) State.driveOk_work (fun _ => State.driveOk_boundary) hreset h hs

end Sys2Proof.Machine
end

section
/-! What a command does to the outgoing side: it posts events, one after another, and apart from the requests, the end of a
frame, the resets and the tick it does nothing else there (R160 to R163). -/

namespace Sys2Proof.Machine

open Relation (ReflTransGen)

/-! ## Events that are posted -/

/-- The second outgoing side is the first after some events have been offered. -/
abbrev Outbox.Offered : Outbox → Outbox → Prop := ReflTransGen (fun o o' => ∃ e, o' = o.offer e)

/-- Some events have been posted, and nothing else has touched the outgoing side. -/
def Posts (s t : State) : Prop := s.out.Offered t.out

theorem Posts.of_eq {s t : State} (h : t.out = s.out) : Posts s t := by
  rw [Posts, h]

theorem Posts.refl (s : State) : Posts s s := .of_eq rfl

theorem Posts.trans {s t u : State} (h : Posts s t) (h' : Posts t u) : Posts s u := ReflTransGen.trans h h'

/-- An end that differs elsewhere than at the outgoing side. -/
theorem Posts.then_eq {s t u : State} (h : Posts s t) (h' : u.out = t.out) : Posts s u := h.trans (.of_eq h')

theorem posts_ite {p : Prop} [Decidable p] {s a b : State} (ha : p → Posts s a) (hb : ¬ p → Posts s b) :
    Posts s (if p then a else b) := by
  split
  · exact ha ‹_›
  · exact hb ‹_›

theorem post_posts (s : State) (k : EventKind) (n : Nat) (d : BitVec 16) : Posts s (s.post k n d) :=
  ReflTransGen.single ⟨_, rfl⟩

theorem posts_foldl {α : Type} {f : State → α → State} (h : ∀ s a, Posts s (f s a)) (l : List α) (s : State) :
    Posts s (l.foldl f s) := by
  induction l generalizing s with
  | nil => exact .refl s
  | cons a l ih => exact (h s a).trans (ih (f s a))

/-- Work in which no command of the queue falls. -/
theorem alone_posts {s : State} {work : State → State} (h : ∀ u, Posts u (work u)) : Posts s (s.alone work) :=
  h { s with pending := [] }

/-! ## Rounds, dispatch and firings -/

theorem finishRound_posts (s : State) (x : SlotId) : Posts s (s.finishRound x) := by
  unfold State.finishRound State.completionPath
  repeat' split
  · exact .of_eq (by simp)
  · exact .of_eq (by simp)
  · exact Posts.trans (.of_eq (by simp [State.countRound])) (post_posts _ _ _ _)
  · exact .of_eq (by simp [State.countRound])

theorem ringWrite_posts (s : State) (n : RingId) (e : RingEntry) : Posts s (s.ringWrite n e) :=
  Posts.trans (.of_eq (by simp)) (posts_ite (fun _ => post_posts (s.setRing n ((s.ring n).join e)) _ _ _) (fun _ => .refl _))

theorem writeRound_posts (s : State) (dest : Option RingId) (e : RingEntry) : Posts s (s.writeRound dest e) := by
  cases dest with
  | none => exact .refl s
  | some n => exact ringWrite_posts s n e

theorem missFeedback_posts (s : State) (dest : Option Feedback) : Posts s (s.missFeedback dest) := .of_eq (by simp)

theorem finishMissed_posts (s : State) (x : SlotId) : Posts s (s.finishMissed x) := by
  unfold State.finishMissed
  dsimp only
  refine Posts.trans ?_ (finishRound_posts _ x)
  refine Posts.trans ?_ (post_posts _ _ _ _)
  refine Posts.trans ?_ (missFeedback_posts _ _)
  refine Posts.trans ?_ (writeRound_posts _ _ _)
  exact .of_eq (by simp)

theorem dispatchChain_posts (n : Nat) (s : State) : Posts s (State.dispatchChain n s) := by
  induction n generalizing s with
  | zero => exact .refl s
  | succ n ih =>
    simp only [State.dispatchChain]
    split
    · exact .refl s
    · exact .refl s
    · exact posts_ite (fun _ => (Posts.trans (.of_eq (by simp)) (finishMissed_posts _ _)).trans (ih _))
        (fun _ => .of_eq (by simp))

theorem dispatch_posts (s : State) : Posts s s.dispatch := dispatchChain_posts _ s

theorem settle_posts (s : State) : Posts s s.settle := posts_ite (fun _ => .refl s) (fun _ => dispatch_posts s)

theorem fire_posts (s : State) (a : AnchorId) : Posts s (s.fire a) :=
  Posts.trans (.of_eq (by simp)) (settle_posts (s.fireAnchor a))

/-! ## The guard unit -/

theorem tripOptions_posts (s : State) (e g : Bool) : Posts s (s.tripOptions e g) := by
  unfold State.tripOptions
  refine Posts.trans (t := if e then s.advanceEpoch else s) (posts_ite (fun _ => .of_eq (by simp)) (fun _ => .refl s)) ?_
  exact posts_ite (fun _ => fire_posts _ _) (fun _ => .refl _)

theorem applyMask_posts (s : State) (mask : BitVec 4) : Posts s (s.applyMask mask) := .of_eq (by simp)

theorem tripWork_posts (s : State) (n : SourceId) : Posts s (s.tripWork n) :=
  ((post_posts s _ _ _).trans (applyMask_posts _ _)).trans (tripOptions_posts _ _ _)

theorem tripPin_posts (s : State) (n : SourceId) : Posts s (s.tripPin n) :=
  Posts.trans (.of_eq (by simp)) (tripWork_posts _ n)

theorem internalCondition_posts (s : State) (n : SourceId) : Posts s (s.internalCondition n) := by
  unfold State.internalCondition
  refine posts_ite (fun _ => .refl s) (fun _ => ?_)
  split
  · exact Posts.trans (.of_eq (by simp)) (tripWork_posts (s.setSource n { s.source n with state := .latched }) n)
  · exact post_posts s _ _ _
  · exact .refl s

theorem seeAsserted_posts (s : State) (n : SourceId) : Posts s (s.seeAsserted n) :=
  posts_ite (fun _ => tripPin_posts s n) (fun _ => .of_eq (by simp))

theorem assertPin_posts (s : State) (p : Fin 8) : Posts s (s.assertPin p) :=
  Posts.trans (.of_eq (by simp)) (posts_ite (fun _ => seeAsserted_posts (s.setGin p _) _) (fun _ => .refl _))

theorem deassertPin_posts (s : State) (p : Fin 8) : Posts s (s.deassertPin p) := by
  simp only [State.deassertPin]
  split
  · exact .of_eq (by simp)
  · exact Posts.trans (.of_eq (by simp)) (post_posts _ _ _ _)
  · exact .of_eq (by simp)

theorem expireQualification_posts (s : State) (p : Fin 8) : Posts s (s.expireQualification p) :=
  posts_ite (fun _ => tripPin_posts s _) (fun _ => .refl s)

theorem writeGuard_posts (s : State) (n : SourceId) (w : GuardWrite) : Posts s (s.writeGuard n w) :=
  Posts.trans (.of_eq (by simp))
    (posts_ite (fun _ => alone_posts fun u => seeAsserted_posts u n) (fun _ => .refl (s.setSource n _)))

theorem clearTrip_posts (s : State) (n : SourceId) : Posts s (s.clearTrip n) := by
  refine posts_ite (fun _ => ?_) (fun _ => .refl s)
  refine Posts.trans (t := s.setSource n (s.source n).cleared) (.of_eq (by simp)) ?_
  exact posts_ite (fun _ => posts_ite (fun _ => alone_posts fun u => tripPin_posts u n) (fun _ => .of_eq (by simp)))
    (fun _ => .of_eq (by simp))

/-! ## The converter and the moments of the anchors -/

theorem deliver_posts (s : State) (c : ChanId) (value : Count) : Posts s (s.deliver c value) :=
  posts_ite (fun _ => .refl s) fun _ =>
    Posts.trans (.of_eq (by simp)) (posts_ite (fun _ => post_posts (State.recompute (s.setChan c _) c) _ _ _) (fun _ => .refl _))

theorem deliverRound_posts (s : State) (dest : Option Feedback) (values : List Count) :
    Posts s (s.deliverRound dest values) := by
  cases dest with
  | none => exact .refl s
  | some f => exact deliver_posts s _ _

theorem windowCheck_posts (s : State) (x : SlotId) (win : Option Window) (values : List Count) :
    Posts s (s.windowCheck x win values) := by
  cases win with
  | none => exact .refl s
  | some w =>
    refine posts_ite (fun _ => .refl s) (fun _ =>
      (post_posts s .window x.val ((values.getD w.element 0).setWidth 16)).trans ?_)
    exact posts_ite (fun _ => internalCondition_posts _ _) (fun _ => .refl _)

theorem completeRound_posts (s : State) (x : SlotId) (values : List Count) : Posts s (s.completeRound x values) := by
  unfold State.completeRound
  refine Posts.trans ?_ (settle_posts _)
  exact (((writeRound_posts s _ _).trans (deliverRound_posts _ _ values)).trans (windowCheck_posts _ x _ values)).trans
    (finishRound_posts _ x)

theorem yieldSlot_posts (s : State) (x : SlotId) : Posts s (s.yieldSlot x) :=
  Posts.trans (.of_eq (by simp))
    (settle_posts { (s.setSlot x { s.slot x with state := .ready }).placeReady x .head with conv := none })

theorem cancelledCompletion_posts (s : State) (x : SlotId) : Posts s (s.cancelledCompletion x) :=
  Posts.trans (.of_eq (by simp)) (settle_posts { s.setSlot x (s.slot x).atRest with conv := none })

theorem elementDone_posts (s : State) (x : SlotId) (value : Count) : Posts s (s.elementDone x value) :=
  posts_ite (fun _ => completeRound_posts s x _) fun _ =>
    Posts.trans (.of_eq (by simp))
      (posts_ite (fun _ => yieldSlot_posts (s.setSlot x { s.slot x with cursor := (s.slot x).cursor + 1, partials := (s.slot x).partials ++ [value] }) x)
        (fun _ => .of_eq (by simp)))

theorem completeConversion_posts (s : State) (value : Count) : Posts s (s.completeConversion value) := by
  unfold State.completeConversion
  split
  · exact .refl s
  · exact posts_ite (fun _ => cancelledCompletion_posts s _) (fun _ => elementDone_posts s _ value)

theorem fireCentre_posts (s : State) (c : ChanId) : Posts s (s.fireCentre c) :=
  Posts.trans (.of_eq (by simp)) (fire_posts (s.setChan c _) _)

theorem midpoint_posts (s : State) (c : ChanId) : Posts s (s.midpoint c) :=
  posts_ite (fun _ => .refl s) fun _ => posts_ite (fun _ => fireCentre_posts s c) (fun _ => .of_eq (by simp))

theorem fireCadence_posts (s : State) (k : Fin 4) : Posts s (s.fireCadence k) :=
  posts_ite (fun _ => Posts.trans (.of_eq (by simp)) (fire_posts (s.setCadence k _) _)) (fun _ => .refl s)

/-! ## The counting units -/

theorem countEdge_posts (s : State) (u : UnitId) (up : Bool) : Posts s (s.countEdge u up) :=
  Posts.trans (.of_eq (by simp))
    (posts_ite (fun _ => (post_posts (s.setCounter u _) _ _ _).trans (fire_posts _ _)) (fun _ => .refl _))

theorem decode_posts (s : State) (d : Fin 2) (p : LinePair) : Posts s (s.decode d p) := by
  have hpair : Posts s (s.takePair d p) := .of_eq (by simp)
  refine posts_ite (fun _ => .refl s) fun _ => posts_ite (fun _ => hpair.trans (countEdge_posts _ _ _)) fun _ =>
    posts_ite (fun _ => hpair.trans (countEdge_posts _ _ _)) fun _ => hpair.trans ?_
  exact Posts.trans (.of_eq (by simp)) (post_posts ((s.takePair d p).setDecoder d _) _ _ _)

theorem quadrature_posts (s : State) (d : Fin 2) (p : LinePair) : Posts s (s.quadrature d p) :=
  Posts.trans (.of_eq (by simp)) (decode_posts (s.setLines d p) d p)

theorem wrappingEdge_posts (s : State) (u : UnitId) (up : Bool) : Posts s (s.wrappingEdge u up) := by
  refine posts_ite (fun _ => .refl s) (fun _ => ?_)
  split
  · exact quadrature_posts s 0 _
  · exact quadrature_posts s 1 _
  · exact posts_ite (fun _ => countEdge_posts s 2 true) (fun _ => .refl s)

theorem disarmStalled_posts (s : State) (u : UnitId) : Posts s (s.disarmStalled u) := .of_eq (by simp)

theorem detectStall_posts (s : State) (u : UnitId) : Posts s (s.detectStall u) :=
  posts_ite (fun _ => ((post_posts s _ _ _).trans (internalCondition_posts _ _)).trans (disarmStalled_posts _ u))
    (fun _ => .refl s)

/-! ## The pulse unit and the link break -/

theorem expireHold_posts (s : State) (g : HoldGroup) : Posts s (s.expireHold g) := by
  refine Posts.trans ?_ (post_posts _ _ _ _)
  cases g <;> exact .of_eq (by simp)

theorem expireHolds_posts (s : State) (motion blade : Bool) : Posts s (s.expireHolds motion blade) := by
  cases motion <;> cases blade
  · exact .refl s
  · exact expireHold_posts s .blade
  · exact expireHold_posts s .motion
  · exact Posts.trans (t := { s with drawn := s.drawn + 1 }) (.of_eq rfl)
      (posts_ite (fun _ => (expireHold_posts _ .motion).trans (expireHold_posts _ .blade))
        (fun _ => (expireHold_posts _ .blade).trans (expireHold_posts _ .motion)))

theorem rampTick_posts (s : State) : Posts s s.rampTick := by
  have hticks : Posts s (allChans.foldl State.tickChannel s) := posts_foldl (fun _ _ => .of_eq (by simp)) _ s
  exact (hticks.then_eq (by simp)).trans (expireHolds_posts ((allChans.foldl State.tickChannel s).countHolds _ _) _ _)

theorem holdRunsOut_posts (s : State) (g : HoldGroup) : Posts s (s.holdRunsOut g) :=
  posts_ite (fun _ => Posts.trans (.of_eq (by simp)) (expireHold_posts (s.countHold g true) g)) (fun _ => .refl s)

theorem breakLink_posts (s : State) : Posts s s.breakLink := by
  refine Posts.trans (.of_eq ?_) (post_posts ((s.discardInput.onEnabled State.zeroDrive).advanceEpoch) _ _ _)
  have h : s.discardInput.onEnabled State.zeroDrive = s.discardInput.onEnabled (State.stopChannel false) := rfl
  simp [h]

end Sys2Proof.Machine
end

section
/-! The events of the requests, and with them the law of the event queue (R162). -/

namespace Sys2Proof.Machine

open Relation (ReflTransGen)

/-! ## What a request posts -/

/-- A request posts events, and nothing else of it touches the outgoing side before its reply. -/
theorem take_posts (k : RequestKind) (p : List Byte) (s : State) : Posts s (k.take p s).state := by
  cases k with
  | ping | readCounters => exact .refl s
  | status | restart => exact .of_eq (by simp [RequestKind.take, takeStatus, takeRestart])
  | setChannel =>
    simp only [RequestKind.take, takeSetChannel]
    repeat' split
    all_goals exact .of_eq (by simp [State.refuse])
  | drive =>
    simp only [RequestKind.take, takeDrive]
    repeat' split
    all_goals exact .of_eq (by simp [State.refuse])
  | stopAll =>
    simp only [RequestKind.take, takeStopAll]
    split
    all_goals exact .of_eq (by simp [State.refuse, State.stopAll])
  | setProfile =>
    simp only [RequestKind.take, takeSetProfile]
    repeat' split
    all_goals exact .of_eq (by simp [State.refuse])
  | selectProfile =>
    simp only [RequestKind.take, takeSelectProfile]
    repeat' split
    all_goals exact .of_eq (by simp [State.refuse])
  | snapshot => rw [RequestKind.take, snapshot_state]; exact .refl s
  | defineAcq =>
    simp only [RequestKind.take, takeDefineAcq]
    repeat' split
    all_goals exact .of_eq (by simp [State.refuse])
  | armAcq =>
    simp only [RequestKind.take, takeArmAcq]
    repeat' split
    · exact .refl s
    · exact Posts.trans (.of_eq (by simp)) (dispatch_posts (s.armSlot _))
    · exact .refl s
  | cancelAcq =>
    simp only [RequestKind.take, takeCancelAcq, State.cancelSlot]
    repeat' split
    · exact .refl s
    · exact .refl s
    · exact .of_eq (by simp)
    · exact Posts.trans (.of_eq (by simp)) (dispatch_posts ((s.leaveReady _).rest _))
    · exact .of_eq (by simp)
    · exact .refl s
  | releaseAcq =>
    simp only [RequestKind.take, takeReleaseAcq]
    repeat' split
    all_goals exact .of_eq (by simp [State.refuse])
  | setAnchor =>
    simp only [RequestKind.take, takeSetAnchor]
    repeat' split
    all_goals exact .of_eq (by simp [State.refuse])
  | setRing =>
    simp only [RequestKind.take, takeSetRing]
    repeat' split
    all_goals exact .of_eq (by simp [State.refuse])
  | readRing =>
    simp only [RequestKind.take, takeReadRing]
    repeat' split
    all_goals exact .of_eq (by simp [State.refuse])
  | setGuard =>
    simp only [RequestKind.take, takeSetGuard]
    repeat' split
    · exact .refl s
    · exact .refl s
    · exact .refl s
    · exact writeGuard_posts s _ _
  | clearTrip =>
    simp only [RequestKind.take, takeClearTrip]
    repeat' split
    · exact .refl s
    · exact .refl s
    · exact clearTrip_posts s _
  | setCounter =>
    simp only [RequestKind.take, takeSetCounter]
    repeat' split
    all_goals exact .of_eq (by simp [State.refuse])

theorem answer_posts (r : Request) (s : State) : Posts s (r.answer s).state := by
  unfold Request.answer
  repeat' split
  · exact .refl s
  · exact take_posts _ _ s
  · exact .refl s

/-! ## Events and replies -/

/-- The second outgoing side is the first after some events have been offered and some replies placed. -/
abbrev Outbox.Served : Outbox → Outbox → Prop :=
  ReflTransGen (fun o o' => (∃ e, o' = o.offer e) ∨ ∃ r, o' = o.pushReply r)

/-- Events have been posted and replies placed, and nothing else has touched the outgoing side. -/
def Serves (s t : State) : Prop := s.out.Served t.out

theorem Posts.serves {s t : State} (h : Posts s t) : Serves s t := ReflTransGen.mono (fun _ _ he => Or.inl he) _ _ h

theorem Serves.of_eq {s t : State} (h : t.out = s.out) : Serves s t := (Posts.of_eq h).serves

theorem Serves.refl (s : State) : Serves s s := .of_eq rfl

theorem Serves.trans {s t u : State} (h : Serves s t) (h' : Serves t u) : Serves s u := ReflTransGen.trans h h'

theorem serves_ite {p : Prop} [Decidable p] {s a b : State} (ha : p → Serves s a) (hb : ¬ p → Serves s b) :
    Serves s (if p then a else b) := by
  split
  · exact ha ‹_›
  · exact hb ‹_›

theorem requestTaken_serves (s : State) (r : Request) : Serves s (s.take r) :=
  (answer_posts r s).serves.trans (ReflTransGen.single (.inr ⟨_, rfl⟩))

theorem takeChain_serves (n : Nat) (s : State) : Serves s (State.takeChain n s) := by
  induction n generalizing s with
  | zero => exact .refl s
  | succ n ih =>
    unfold State.takeChain
    split
    · exact .refl s
    · exact serves_ite
        (fun _ => (Serves.trans (.of_eq (by simp)) (requestTaken_serves (s.setRequests _) _)).trans (ih _)) (fun _ => .refl s)

theorem enqueue_serves (s : State) (r : Request) : Serves s (s.enqueue r) :=
  serves_ite (fun _ => .of_eq (by simp))
    (fun _ => Serves.trans (.of_eq (by simp)) (takeChain_serves _ (s.setRequests (s.link.requests ++ [r]))))

theorem hear_serves {work : State → State} (h : ∀ u, Serves u (work u)) (s : State) : Serves s (s.hear work) :=
  serves_ite (fun _ => Serves.trans (.of_eq (by simp)) (h s.seeHigh)) (fun _ => .refl s)

theorem dropFrame_serves (s : State) : Serves s s.dropFrame := .of_eq (by simp)

theorem completeFrame_serves (s : State) (bytes : List Byte) : Serves s (s.completeFrame bytes) := by
  unfold State.completeFrame
  split
  · exact dropFrame_serves s
  · refine serves_ite (fun _ => ?_) (fun _ => Serves.trans (.of_eq (by simp)) (enqueue_serves (s.setReceiver .hunt) _))
    exact serves_ite (fun _ => .of_eq (by simp)) (fun _ => .of_eq (by simp))

theorem takeByte_serves (s : State) (b : Byte) : Serves s (s.takeByte b) := by
  unfold State.takeByte
  split
  · exact serves_ite (fun _ => .of_eq (by simp)) (fun _ => .refl s)
  · unfold State.frameByte
    split
    · exact .of_eq (by simp)
    · exact serves_ite (fun _ => dropFrame_serves s) fun _ =>
        serves_ite (fun _ => completeFrame_serves s _) (fun _ => .of_eq (by simp))

theorem rxdLow20_serves (s : State) : Serves s s.rxdLow20 :=
  serves_ite (fun _ => (breakLink_posts s).serves.trans (.of_eq (by simp))) (fun _ => .of_eq (by simp))

/-! ## Commands and the tick -/

/-- A command that resets the part leaves no reply, and READY as the one event (R168). -/
theorem out_of_resets {c : Instr} {s : State} (h : s.resets c = true) :
    ∃ cause, (effect c s).out = { State.reset.out with events := [EventRecord.readyRecord cause] } := by
  cases c with
  | powerOn => exact ⟨.power, rfl⟩
  | nrstAssert =>
    have hhigh : s.pins.nrst = true := h
    exact ⟨.pin, by simp [effect, exec, execNrstAssert, State.assertNrst, hhigh, State.resetBy]⟩
  | nrstRelease =>
    have hlow : s.pins.nrst = false := by simpa [State.resets] using h
    exact ⟨.pin, by simp [effect, exec, execNrstRelease, State.releaseNrst, hlow, State.resetBy]⟩
  | frameTransmitted =>
    obtain ⟨hlive, hends⟩ : s.pins.nrst = true ∧ s.restartReplyEnds = true := by simpa [State.resets] using h
    have hframe : s.frameEnds = s.restartReset := by
      unfold State.frameEnds
      split
      · next hnone => simp [State.restartReplyEnds, hnone] at hends
      · rw [if_pos hends]
    exact ⟨.restart, by simp [effect, exec, execFrameTransmitted, State.live, hlive, hframe, State.restartReset, State.resetBy]⟩
  | restartReset =>
    obtain ⟨hlive, hends⟩ : s.pins.nrst = true ∧ s.restartReplyEnds = true := by simpa [State.resets] using h
    exact ⟨.restart, by simp [effect, exec, execRestartReset, State.live, hlive, hends, State.restartReset, State.resetBy]⟩
  | _ => cases h

/-- Every other command but the end of a frame posts events and places replies. -/
theorem effect_serves {c : Instr} {s : State} (hreset : s.resets c = false) (hend : c ≠ .frameTransmitted) :
    Serves s (effect c s) := by
  have live {t : State} (h : Serves s t) : Serves s (if s.pins.nrst then t else s) :=
    serves_ite (fun _ => h) (fun _ => .refl s)
  cases c with
  | ping tag p | status tag p | restart tag p | setChannel tag p | drive tag p | stopAll tag p | setProfile tag p
  | selectProfile tag p | snapshot tag p | defineAcq tag p | armAcq tag p | cancelAcq tag p | releaseAcq tag p
  | setAnchor tag p | setRing tag p | readRing tag p | setGuard tag p | clearTrip tag p | setCounter tag p
  | readCounters tag p | unknownKind tag kind p => exact live (hear_serves (fun u => enqueue_serves u _) s)
  | frameReceived bytes => exact live (hear_serves (fun u => completeFrame_serves u bytes) s)
  | interByteGapTimeout => exact live (.of_eq (by simp))
  | framingError => exact live (hear_serves dropFrame_serves s)
  | linkBreak => exact serves_ite (fun _ => rxdLow20_serves s) (fun _ => .of_eq (by simp))
  | frameTransmitted => exact absurd rfl hend
  | restartReset =>
    refine serves_ite (fun hlive => ?_) (fun _ => .refl s)
    have hends : s.restartReplyEnds = false := by simpa [State.resets, hlive] using hreset
    simpa [hends] using Serves.refl s
  | powerOn => simp [State.resets] at hreset
  | nrstAssert =>
    have hlow : s.pins.nrst = false := by simpa [State.resets] using hreset
    exact .of_eq (by simp [effect, exec, execNrstAssert, State.assertNrst, hlow])
  | nrstRelease =>
    have hhigh : s.pins.nrst = true := by simpa [State.resets] using hreset
    exact .of_eq (by simp [effect, exec, execNrstRelease, State.releaseNrst, hhigh])
  | rampTick => exact live (rampTick_posts s).serves
  | holdExpiry g => exact live (holdRunsOut_posts s g).serves
  | periodBoundary ch => exact live (.of_eq (by simp))
  | periodMidpoint ch => exact live (midpoint_posts s ch).serves
  | centreAnchorFire ch => exact live (serves_ite (fun _ => (fireCentre_posts s ch).serves) (fun _ => .refl s))
  | cadenceAnchorFire k => exact live (fireCadence_posts s k).serves
  | conversionComplete value => exact live (completeConversion_posts s value).serves
  | waitLimitExpiry x => exact live (.of_eq (by simp))
  | guardPinAssert p => exact serves_ite (fun _ => (assertPin_posts s p).serves) (fun _ => .of_eq (by simp))
  | guardPinDeassert p => exact serves_ite (fun _ => (deassertPin_posts s p).serves) (fun _ => .of_eq (by simp))
  | qualificationExpiry p => exact live (expireQualification_posts s p).serves
  | quadratureStep d a b => exact serves_ite (fun _ => (quadrature_posts s d _).serves) (fun _ => .of_eq (by simp))
  | tachEdge => exact live (countEdge_posts s 2 true).serves
  | tallyWrap u up => exact live (wrappingEdge_posts s u up).serves
  | graceExpiry u => exact live (.of_eq (by simp))
  | stall u => exact live (detectStall_posts s u).serves
  | byteReceived b => exact live (hear_serves (fun u => takeByte_serves u b) s)
  | rxdReturnsHigh => exact serves_ite (fun _ => .of_eq (by simp)) (fun _ => .of_eq (by simp))

/-- The end of a frame: the transmitter chooses, and what waits is taken (R163). -/
theorem frameTransmitted_serves {s : State} (hreset : s.resets .frameTransmitted = false) :
    effect .frameTransmitted s = s ∨
      effect .frameTransmitted s = s.freeTransmitter.takeAll := by
  by_cases hlive : s.pins.nrst = true
  · have hends : s.restartReplyEnds = false := by simpa [State.resets, hlive] using hreset
    cases hsending : s.out.sending with
    | none => exact .inl (by simp [effect, exec, execFrameTransmitted, State.live, hlive, State.frameEnds, hsending])
    | some f =>
      exact .inr (by
        simp [effect, exec, execFrameTransmitted, State.live, hlive, State.frameEnds, hsending, hends,
          State.transmitterFree])
  · exact .inl (by simp [effect, exec, execFrameTransmitted, State.live, hlive])

/-- What offers, replies, choices, the tick and the resets keep of the outgoing side, every step keeps. -/
theorem step_keeps_out {P : Outbox → Prop} (hoffer : ∀ o e, P o → P (o.offer e))
    (hpush : ∀ o r, P o → P (o.pushReply r)) (hfree : ∀ o : Outbox, P o → P { o with sending := none, sentTicks := 0 }.choose)
    (htick : ∀ o : Outbox, P o → P o.choose.tick)
    (hreset : ∀ cause, P { State.reset.out with events := [EventRecord.readyRecord cause] })
    {s t : State} (h : step s = .next t) (hs : P s.out) : P t.out := by
  have hserves : ∀ {u v : State}, Serves u v → P u.out → P v.out := by
    intro u v huv hu
    exact huv.head_induction_on (motive := fun o _ => P o → P v.out) id
      (fun hstep _ ih ho => ih (by
        rcases hstep with ⟨e, rfl⟩ | ⟨r, rfl⟩
        · exact hoffer _ e ho
        · exact hpush _ r ho)) hu
  obtain ⟨-, rfl⟩ | ⟨c, rest, -, rfl⟩ := step_cases h
  · unfold State.tick
    split
    · exact htick _ hs
    · exact hs
  by_cases hc : (s.withRest rest).resets c = true
  · obtain ⟨cause, hout⟩ := out_of_resets hc
    rw [hout]
    exact hreset cause
  rw [Bool.not_eq_true] at hc
  by_cases hend : c = .frameTransmitted
  · subst hend
    rcases frameTransmitted_serves hc with heq | heq
    · rw [heq]; exact hs
    · rw [heq]
      exact hserves (takeChain_serves _ _) (hfree _ hs)
  · exact hserves (effect_serves hc hend) hs

/-! ## The law of the event queue (R162) -/

/-- What names a record: its kind and its source. -/
def EventRecord.names (e : EventRecord) : EventKind × Nat := (e.kind, e.source)

theorem markNewest_names (q : List EventRecord) : (markNewest q).map EventRecord.names = q.map EventRecord.names := by
  induction q using markNewest.induct with
  | case1 => rfl
  | case2 e => rfl
  | case3 e f rest ih => simpa [markNewest] using ih

theorem bumped_names (q : List EventRecord) (e : EventRecord) :
    (q.map (fun w => if w.absorbs e then w.bump else w)).map EventRecord.names = q.map EventRecord.names := by
  rw [List.map_map]
  refine List.map_congr_left (fun w _ => ?_)
  dsimp only [Function.comp_apply]
  split <;> rfl

/-- The law of the event queue is a law of the names of its records. -/
theorem pairwise_standsWith_iff (q : List EventRecord) :
    q.Pairwise EventRecord.standsWith ↔
      (q.map EventRecord.names).Pairwise (fun a b => a.1 = .ready ∨ a.1 ≠ b.1 ∨ a.2 ≠ b.2) := by
  rw [List.pairwise_map]
  rfl

/-- A record that none absorbs may join the queue. -/
theorem standsWith_of_not_absorbs {w e : EventRecord} (h : w.absorbs e = false) : w.standsWith e := by
  by_cases hready : w.kind = .ready
  · exact .inl hready
  by_cases hkind : w.kind = e.kind
  · by_cases hsource : w.source = e.source
    · have hne : e.kind ≠ .ready := hkind ▸ hready
      simp [EventRecord.absorbs, hkind, hsource, hne] at h
    · exact .inr (.inr hsource)
  · exact .inr (.inl hkind)

/-- The law of R162 of a queue. -/
def eventsOk (q : List EventRecord) : Prop := q.length ≤ 16 ∧ q.Pairwise EventRecord.standsWith

theorem eventsOk_of_names_eq {q q' : List EventRecord} (h : q'.map EventRecord.names = q.map EventRecord.names)
    (hq : eventsOk q) : eventsOk q' := by
  refine ⟨?_, ?_⟩
  · have hlength := congrArg List.length h
    simp only [List.length_map] at hlength
    exact hlength ▸ hq.1
  · rw [pairwise_standsWith_iff, h, ← pairwise_standsWith_iff]
    exact hq.2

/-- An offered event is coalesced, or added where it may stand, or lost (R162). -/
theorem eventsOk_placeEvent {q : List EventRecord} (e : EventRecord) (hq : eventsOk q) : eventsOk (placeEvent q e) := by
  unfold placeEvent
  split
  · exact eventsOk_of_names_eq (bumped_names q e) hq
  · next habsorbed =>
    split
    · next hroom =>
      simp only [Bool.not_eq_true, List.any_eq_false] at habsorbed
      refine ⟨by simp; omega, List.pairwise_append.mpr ⟨hq.2, List.pairwise_singleton _ _, ?_⟩⟩
      intro w hw f hf
      rw [List.mem_singleton] at hf
      exact hf ▸ standsWith_of_not_absorbs (by simpa using habsorbed w hw)
    · exact eventsOk_of_names_eq (markNewest_names q) hq

theorem eventsOk_of_sublist {q q' : List EventRecord} (h : q'.Sublist q) (hq : eventsOk q) : eventsOk q' :=
  ⟨h.length_le.trans hq.1, hq.2.sublist h⟩

theorem eventsOk_choose {o : Outbox} (h : eventsOk o.events) : eventsOk o.choose.events :=
  eventsOk_of_sublist o.choose_events_sublist h

theorem Outbox.tick_events (o : Outbox) : o.tick.events = o.events := by
  unfold Outbox.tick
  split <;> rfl

/-- Settles O11: an event joins by the three cases of R162, and all else only takes records away. -/
theorem eventLawKept : Obligations.EventLawKept := by
  intro s t h
  refine step_keeps_out (P := fun o => eventsOk o.events) ?_ ?_ ?_ ?_ ?_ h
  · intro o e ho
    exact eventsOk_choose (eventsOk_placeEvent e (eventsOk_choose ho))
  · intro o r ho
    exact eventsOk_choose (eventsOk_choose ho)
  · intro o ho
    exact eventsOk_choose ho
  · intro o ho
    rw [Outbox.tick_events]
    exact eventsOk_choose ho
  · intro cause
    exact ⟨by simp, List.pairwise_singleton _ _⟩

end Sys2Proof.Machine
end

section
/-! The laws of the link controller: the bounds of its queues, the requests that can be taken, the idle transmitter, the
receiver (R156, R158, R160, R163, R169). -/

namespace Sys2Proof.Machine

open Relation (ReflTransGen)

/-! ## The outgoing side -/

/-- The laws of the outgoing side: at most four replies wait (R160), and with an idle transmitter no reply waits, and no
event but a READY (R163, R168). -/
structure Outbox.Lawful (o : Outbox) : Prop where
  replies : o.replies.length ≤ 4
  idle : o.sending = none → o.replies = [] ∧ ∀ e ∈ o.events, e.kind = .ready

/-- A choice that leaves the transmitter idle has found nothing to send. -/
theorem Outbox.empty_of_choose_idle {o : Outbox} (h : o.choose.sending = none) :
    o.sending = none ∧ o.replies = [] ∧ o.events = [] := by
  unfold Outbox.choose at h
  split at h
  · next f hf => simp [hf] at h
  · next hnone =>
    split at h
    · next hr he => exact ⟨hnone, hr, he⟩
    · simp [Outbox.sendReply] at h
    · simp [Outbox.sendEvent] at h
    · split at h
      · simp [Outbox.sendReply] at h
      · simp [Outbox.sendEvent] at h

/-- After a choice an idle transmitter has nothing to send. -/
theorem Outbox.choose_idle_lawful {o : Outbox} (h : o.choose.sending = none) :
    o.choose.replies = [] ∧ o.choose.events = [] := by
  obtain ⟨hnone, hr, he⟩ := Outbox.empty_of_choose_idle h
  simp [Outbox.choose, hnone, hr, he]

theorem Outbox.lawful_choose {o : Outbox} (h : o.replies.length ≤ 4) : o.choose.Lawful := by
  refine ⟨o.choose_replies_length.trans h, fun hidle => ?_⟩
  obtain ⟨hr, he⟩ := Outbox.choose_idle_lawful hidle
  exact ⟨hr, by simp [he]⟩

/-- A choice touches the replies only if they wait for an idle transmitter. -/
theorem Outbox.Lawful.choose_replies {o : Outbox} (h : o.Lawful) : o.choose.replies = o.replies := by
  cases hs : o.sending with
  | some f => rw [Outbox.choose_busy hs]
  | none =>
    have hr := (h.idle hs).1
    have hle := o.choose_replies_length
    rw [hr] at hle ⊢
    exact List.eq_nil_of_length_eq_zero (by simpa using hle)

theorem Outbox.Lawful.choose {o : Outbox} (h : o.Lawful) : o.choose.Lawful := Outbox.lawful_choose h.replies

theorem placeEvent_ne_nil (q : List EventRecord) (e : EventRecord) : placeEvent q e ≠ [] := by
  intro hnil
  have hnames : (placeEvent q e).map EventRecord.names = [] := by rw [hnil]; rfl
  unfold placeEvent at hnames hnil
  split at hnames
  · next habsorbed =>
    rw [bumped_names, List.map_eq_nil_iff] at hnames
    simp [hnames] at habsorbed
  · split at hnames
    · simp at hnames
    · next hfull =>
      rw [markNewest_names, List.map_eq_nil_iff] at hnames
      simp [hnames] at hfull

/-- After an offer the transmitter is busy. -/
theorem Outbox.offer_sending (o : Outbox) (e : EventRecord) : (o.offer e).sending ≠ none := by
  intro h
  obtain ⟨-, -, he⟩ := Outbox.empty_of_choose_idle h
  exact placeEvent_ne_nil _ e he

/-- After a reply is placed the transmitter is busy. -/
theorem Outbox.pushReply_sending (o : Outbox) (r : Reply) : (o.pushReply r).sending ≠ none := by
  intro h
  obtain ⟨-, hr, -⟩ := Outbox.empty_of_choose_idle h
  simp at hr

/-- An offer leaves the replies that wait. -/
theorem Outbox.Lawful.offer {o : Outbox} (h : o.Lawful) (e : EventRecord) :
    (o.offer e).Lawful ∧ (o.offer e).replies = o.replies := by
  have hreplies : (o.offer e).replies = o.replies := by
    cases hs : o.choose.sending with
    | some f =>
      have hbusy : ({ o.choose with events := placeEvent o.choose.events e } : Outbox).sending = some f := hs
      rw [Outbox.offer, Outbox.choose_busy hbusy]
      exact h.choose_replies
    | none =>
      obtain ⟨hnone, hr, -⟩ := Outbox.empty_of_choose_idle hs
      have hle : (o.offer e).replies.length ≤ o.choose.replies.length := Outbox.choose_replies_length _
      rw [h.choose_replies, hr] at hle
      rw [hr]
      exact List.eq_nil_of_length_eq_zero (by simpa using hle)
  exact ⟨⟨hreplies ▸ h.replies, fun hidle => absurd hidle (o.offer_sending e)⟩, hreplies⟩

theorem Outbox.Lawful.offered {o o' : Outbox} (hoo : o.Offered o') (h : o.Lawful) :
    o'.Lawful ∧ o'.replies = o.replies := by
  induction hoo with
  | refl => exact ⟨h, rfl⟩
  | tail _ hstep ih =>
    obtain ⟨e, rfl⟩ := hstep
    obtain ⟨hlawful, hreplies⟩ := ih.1.offer e
    exact ⟨hlawful, hreplies.trans ih.2⟩

theorem Posts.lawful {s t : State} (h : Posts s t) (hs : s.out.Lawful) : t.out.Lawful ∧ t.out.replies = s.out.replies :=
  hs.offered h

/-- A reply that finds room (R158) keeps the bound (R160). -/
theorem Outbox.Lawful.pushReply {o : Outbox} (h : o.Lawful) (hroom : o.replies.length < 4) (r : Reply) :
    (o.pushReply r).Lawful := by
  refine ⟨(Outbox.choose_replies_length _).trans ?_, fun hidle => absurd hidle (o.pushReply_sending r)⟩
  simp only [List.length_append, List.length_singleton, h.choose_replies]
  omega

/-! ## Taking -/

/-- The laws of the two queues: requests wait only while they cannot be taken. -/
structure State.LinkOk (s : State) : Prop where
  requests : s.link.requests.length ≤ 4
  out : s.out.Lawful
  waits : s.link.requests ≠ [] → s.mayTake = false

theorem State.linkLaw_iff (s : State) :
    s.linkLaw ↔ s.link.requests.length ≤ 4 ∧ s.out.Lawful ∧
      (s.link.requests ≠ [] → s.mayTake = false ∨ s.breakNext = true) := by
  constructor
  · rintro ⟨hreq, hrep, hwaits, hidle⟩
    exact ⟨hreq, ⟨hrep, hidle⟩, hwaits⟩
  · rintro ⟨hreq, ⟨hrep, hidle⟩, hwaits⟩
    exact ⟨hreq, hrep, hwaits, hidle⟩

theorem State.LinkOk.linkLaw {s : State} (h : s.LinkOk) : s.linkLaw :=
  (State.linkLaw_iff s).mpr ⟨h.requests, h.out, fun hne => .inl (h.waits hne)⟩

theorem State.mayTake_of_eq {s t : State} (hreplies : t.out.replies = s.out.replies)
    (hwait : t.link.restartWait = s.link.restartWait) : t.mayTake = s.mayTake := by
  simp only [State.mayTake, hreplies, hwait]

/-- What only posts events, and leaves the link, keeps the laws of the queues. -/
theorem State.LinkOk.posts {s t : State} (h : s.LinkOk) (hposts : Posts s t) (hlink : t.link = s.link) : t.LinkOk := by
  obtain ⟨hout, hreplies⟩ := hposts.lawful h.out
  refine ⟨hlink ▸ h.requests, hout, fun hne => ?_⟩
  rw [State.mayTake_of_eq hreplies (by rw [hlink])]
  exact h.waits (by rwa [hlink] at hne)

theorem State.lawful_take {s : State} (h : s.out.Lawful) (hmay : s.mayTake = true) (r : Request) : (s.take r).out.Lawful := by
  obtain ⟨hout, hreplies⟩ := (answer_posts r s).lawful h
  refine hout.pushReply ?_ _
  rw [hreplies]
  simp only [State.mayTake, Bool.and_eq_true, decide_eq_true_eq] at hmay
  exact hmay.1

/-- Taking ends with no request left, or with none that can be taken (R158). -/
theorem State.linkOk_takeChain {n : Nat} {s : State} (hn : s.link.requests.length ≤ n) (hout : s.out.Lawful)
    (hfour : s.link.requests.length ≤ 4) : (State.takeChain n s).LinkOk := by
  induction n generalizing s with
  | zero =>
    have hnil : s.link.requests = [] := List.eq_nil_of_length_eq_zero (by omega)
    exact ⟨by simp [State.takeChain, hnil], hout, fun hne => absurd hnil hne⟩
  | succ n ih =>
    unfold State.takeChain
    split
    · next hnil => exact ⟨hfour, hout, fun hne => absurd hnil hne⟩
    · next r rest hreq =>
      rw [hreq, List.length_cons] at hn hfour
      split
      · next hmay =>
        have hrest : ((s.setRequests rest).take r).link.requests = rest := by simp [State.setRequests]
        refine ih (by rw [hrest]; omega) (State.lawful_take (s := s.setRequests rest) hout ?_ r) (by rw [hrest]; omega)
        exact hmay
      · next hmay => exact ⟨by rw [hreq, List.length_cons]; exact hfour, hout, fun _ => by simpa using hmay⟩

theorem State.linkOk_takeAll {s : State} (hout : s.out.Lawful) (hfour : s.link.requests.length ≤ 4) : s.takeAll.LinkOk :=
  State.linkOk_takeChain le_rfl hout hfour

theorem State.LinkOk.enqueue {s : State} (h : s.LinkOk) (r : Request) : (s.enqueue r).LinkOk := by
  unfold State.enqueue State.join
  split
  · exact ⟨h.requests, h.out, h.waits⟩
  · next hjoin =>
    simp only [not_or, Nat.not_le] at hjoin
    refine State.linkOk_takeAll h.out ?_
    simp only [State.setRequests, List.length_append, List.length_singleton]
    omega

theorem State.LinkOk.seeHigh {s : State} (h : s.LinkOk) : s.seeHigh.LinkOk := ⟨h.requests, h.out, h.waits⟩

theorem State.LinkOk.setReceiver {s : State} (h : s.LinkOk) (m : RxMode) : (s.setReceiver m).LinkOk :=
  ⟨h.requests, h.out, h.waits⟩

theorem State.LinkOk.dropFrame {s : State} (h : s.LinkOk) : s.dropFrame.LinkOk := ⟨h.requests, h.out, h.waits⟩

/-- A frame that is complete leaves the laws; with a link break behind it its request may wait for the break (R169). -/
theorem State.LinkOk.completeFrame {s : State} (h : s.LinkOk) (bytes : List Byte) : (s.completeFrame bytes).linkLaw := by
  unfold State.completeFrame
  split
  · exact h.dropFrame.linkLaw
  · split
    · next r hbreak =>
      unfold State.join
      split
      · exact State.LinkOk.linkLaw ⟨h.requests, h.out, h.waits⟩
      · next hjoin =>
        simp only [not_or, Nat.not_le] at hjoin
        refine (State.linkLaw_iff _).mpr ⟨?_, h.out, fun _ => .inr hbreak⟩
        simp only [id, State.setRequests, List.length_append, List.length_singleton]
        omega
    · exact ((h.setReceiver .hunt).enqueue _).linkLaw

/-! ## The receiver (R156) -/

@[simp] theorem State.mode_enqueue (s : State) (r : Request) : (s.enqueue r).link.mode = s.link.mode := by
  unfold State.enqueue State.join
  split
  · rfl
  · simp [State.takeAll, State.setRequests]

theorem State.mode_completeFrame (s : State) (bytes : List Byte) : (s.completeFrame bytes).link.mode = .hunt := by
  unfold State.completeFrame
  split
  · rfl
  · split
    · unfold State.join
      split <;> rfl
    · simp [State.setReceiver]

theorem State.receiverLaw_of_hunt {s : State} (h : s.link.mode = .hunt) : s.receiverLaw := by
  simp [State.receiverLaw, h]

theorem State.receiverLaw_of_mode_eq {s t : State} (h : t.link.mode = s.link.mode) (hs : s.receiverLaw) : t.receiverLaw := by
  simpa only [State.receiverLaw, h] using hs

/-- The receiver keeps a byte only where the frame it announces is longer (R156). -/
theorem State.receiverLaw_takeByte {s : State} (b : Byte) (hs : s.receiverLaw) : (s.takeByte b).receiverLaw := by
  unfold State.takeByte
  split
  · split
    · trivial
    · exact hs
  · next taken hmode =>
    unfold State.frameByte
    split
    · trivial
    · next len rest hbytes =>
      split
      · exact State.receiverLaw_of_hunt rfl
      · next hfits =>
        split
        · exact State.receiverLaw_of_hunt (s.mode_completeFrame _)
        · next hlength =>
          rw [hbytes] at hlength ⊢
          refine ⟨by simpa using hfits, ?_⟩
          rw [State.receiverLaw, hmode] at hs
          cases taken with
          | nil =>
            obtain ⟨-, rfl⟩ : b = len ∧ [] = rest := by simpa using hbytes
            simp
          | cons l r =>
            obtain ⟨rfl, rfl⟩ : l = len ∧ r ++ [b] = rest := by simpa using hbytes
            have hr : r.length < l.toNat + 1 := hs.2
            simp only [List.length_cons, List.length_append, List.length_nil] at hlength ⊢
            omega

theorem State.LinkOk.takeByte {s : State} (h : s.LinkOk) (b : Byte) : (s.takeByte b).linkLaw := by
  unfold State.takeByte
  split
  · split
    · exact (h.setReceiver _).linkLaw
    · exact h.linkLaw
  · unfold State.frameByte
    repeat' split
    · exact (h.setReceiver _).linkLaw
    · exact h.dropFrame.linkLaw
    · exact h.completeFrame _
    · exact (h.setReceiver _).linkLaw

/-! ## Commands and the tick -/

/-- The laws of the link in a state that no command breaks into. -/
structure State.QuietLink (s : State) : Prop where
  link : s.LinkOk
  receiver : s.receiverLaw

theorem State.QuietLink.laws {s : State} (h : s.QuietLink) : s.linkLaw ∧ s.receiverLaw := ⟨h.link.linkLaw, h.receiver⟩

theorem State.QuietLink.posts {s t : State} (h : s.QuietLink) (hposts : Posts s t) (hlink : t.link = s.link) :
    t.linkLaw ∧ t.receiverLaw :=
  ⟨(h.link.posts hposts hlink).linkLaw, State.receiverLaw_of_mode_eq (by rw [hlink]) h.receiver⟩

theorem State.QuietLink.hear {s : State} (h : s.QuietLink) {work : State → State}
    (hwork : ∀ u : State, u.QuietLink → (work u).linkLaw ∧ (work u).receiverLaw) :
    (s.hear work).linkLaw ∧ (s.hear work).receiverLaw := by
  unfold State.hear
  split
  · exact hwork s.seeHigh ⟨h.link.seeHigh, h.receiver⟩
  · exact h.laws

theorem State.QuietLink.enqueue {s : State} (h : s.QuietLink) (r : Request) :
    (s.enqueue r).linkLaw ∧ (s.enqueue r).receiverLaw :=
  ⟨(h.link.enqueue r).linkLaw, State.receiverLaw_of_mode_eq (by simp) h.receiver⟩

/-- After a reset nothing waits but READY (R168). -/
theorem laws_of_resets {c : Instr} {s : State} (h : s.resets c = true) :
    (effect c s).linkLaw ∧ (effect c s).receiverLaw := by
  have hlink : (effect c s).link = State.reset.link := by
    cases c with
    | powerOn => rfl
    | nrstAssert =>
      have hhigh : s.pins.nrst = true := h
      simp [effect, exec, execNrstAssert, State.assertNrst, hhigh, State.resetBy]
    | nrstRelease =>
      have hlow : s.pins.nrst = false := by simpa [State.resets] using h
      simp [effect, exec, execNrstRelease, State.releaseNrst, hlow, State.resetBy]
    | frameTransmitted =>
      obtain ⟨hlive, hends⟩ : s.pins.nrst = true ∧ s.restartReplyEnds = true := by simpa [State.resets] using h
      cases hs : s.out.sending with
      | none => simp [State.restartReplyEnds, hs] at hends
      | some f =>
        simp [effect, exec, execFrameTransmitted, State.live, hlive, State.frameEnds, hs, hends, State.restartReset,
          State.resetBy]
    | restartReset =>
      obtain ⟨hlive, hends⟩ : s.pins.nrst = true ∧ s.restartReplyEnds = true := by simpa [State.resets] using h
      simp [effect, exec, execRestartReset, State.live, hlive, hends, State.restartReset, State.resetBy]
    | _ => cases h
  obtain ⟨cause, hout⟩ := out_of_resets h
  have hlawful : (effect c s).out.Lawful := by
    rw [hout]
    exact ⟨Nat.zero_le 4, fun _ => ⟨rfl, by simp [EventRecord.readyRecord]⟩⟩
  have hnil : (effect c s).link.requests = [] := by rw [hlink]; rfl
  exact ⟨State.LinkOk.linkLaw ⟨by simp [hnil], hlawful, fun hne => absurd hnil hne⟩,
    State.receiverLaw_of_hunt (by rw [hlink]; rfl)⟩

/-- Of a link break's work, the link is touched by the discards alone (R165). -/
theorem State.link_breakLink (s : State) : s.breakLink.link = s.discardInput.link := by
  have h : s.discardInput.onEnabled State.zeroDrive = s.discardInput.onEnabled (State.stopChannel false) := rfl
  simp [State.breakLink, h]

/-- A line that goes low after what waited has been discarded. -/
theorem State.laws_lineLow {s : State} (hnil : s.link.requests = []) (hhunt : s.link.mode = .hunt) (hout : s.out.Lawful) :
    s.lineLow.linkLaw ∧ s.lineLow.receiverLaw :=
  ⟨State.LinkOk.linkLaw ⟨hnil ▸ Nat.zero_le 4, hout, fun hne => absurd hnil hne⟩, State.receiverLaw_of_hunt hhunt⟩

/-- A link break discards what waits; on a line that was low already it brings nothing new (R164, R165). -/
theorem linkBreak_laws {s : State} (hfour : s.link.requests.length ≤ 4) (hout : s.out.Lawful)
    (hwaits : s.link.requests ≠ [] → s.mayTake = false ∨ (s.pins.nrst = true ∧ s.link.seenHigh = true))
    (hreceiver : s.receiverLaw) : (effect .linkBreak s).linkLaw ∧ (effect .linkBreak s).receiverLaw := by
  have hsame {t : State} (ht : t.out = s.out) (hreq : t.link.requests = s.link.requests)
      (hwait : t.link.restartWait = s.link.restartWait) (hmode : t.link.mode = s.link.mode)
      (hno : ¬ (s.pins.nrst = true ∧ s.link.seenHigh = true)) : t.linkLaw ∧ t.receiverLaw := by
    refine ⟨State.LinkOk.linkLaw ⟨hreq ▸ hfour, ht ▸ hout, fun hne => ?_⟩, State.receiverLaw_of_mode_eq hmode hreceiver⟩
    rw [State.mayTake_of_eq (by rw [ht]) hwait]
    exact (hwaits (hreq ▸ hne)).resolve_right hno
  show State.linkLaw (if s.pins.nrst then s.rxdLow20 else s.setRxd false) ∧
    State.receiverLaw (if s.pins.nrst then s.rxdLow20 else s.setRxd false)
  split
  · next hlive =>
    unfold State.rxdLow20
    split
    · refine State.laws_lineLow ?_ ?_ ((breakLink_posts s).lawful hout).1
      · rw [State.link_breakLink]; rfl
      · rw [State.link_breakLink]; rfl
    · next hlow => exact hsame rfl rfl rfl rfl fun h => hlow h.2
  · next hheld => exact hsame rfl rfl rfl rfl fun h => hheld h.1

/-- Every other command keeps the laws where no link break waits behind what it finds. -/
theorem effect_link_laws {c : Instr} {s : State} (h : s.QuietLink) (hreset : s.resets c = false) (hbreak : c ≠ .linkBreak) :
    (effect c s).linkLaw ∧ (effect c s).receiverLaw := by
  have live {t : State} (ht : t.linkLaw ∧ t.receiverLaw) :
      State.linkLaw (if s.pins.nrst then t else s) ∧ State.receiverLaw (if s.pins.nrst then t else s) := by
    split
    · exact ht
    · exact h.laws
  cases c with
  | ping tag p | status tag p | restart tag p | setChannel tag p | drive tag p | stopAll tag p | setProfile tag p
  | selectProfile tag p | snapshot tag p | defineAcq tag p | armAcq tag p | cancelAcq tag p | releaseAcq tag p
  | setAnchor tag p | setRing tag p | readRing tag p | setGuard tag p | clearTrip tag p | setCounter tag p
  | readCounters tag p | unknownKind tag kind p => exact live (h.hear fun _ hu => hu.enqueue _)
  | frameReceived bytes =>
    exact live (h.hear fun u hu => ⟨hu.link.completeFrame bytes, State.receiverLaw_of_hunt (u.mode_completeFrame bytes)⟩)
  | interByteGapTimeout =>
    refine live ?_
    unfold State.gapTimeout
    split
    · exact h.laws
    · exact ⟨h.link.dropFrame.linkLaw, State.receiverLaw_of_hunt rfl⟩
  | framingError =>
    exact live (h.hear fun _ hu => ⟨hu.link.dropFrame.linkLaw, State.receiverLaw_of_hunt rfl⟩)
  | linkBreak => exact absurd rfl hbreak
  | frameTransmitted =>
    rcases frameTransmitted_serves hreset with heq | heq
    · rw [heq]; exact h.laws
    · rw [heq]
      have hfree : s.freeTransmitter.out.Lawful :=
        Outbox.lawful_choose (o := { s.out with sending := none, sentTicks := 0 }) h.link.out.replies
      refine ⟨(State.linkOk_takeAll hfree h.link.requests).linkLaw, State.receiverLaw_of_mode_eq ?_ h.receiver⟩
      simp [State.takeAll, State.freeTransmitter]
  | restartReset =>
    have hsame : effect .restartReset s = s := by
      simp only [State.resets, Bool.and_eq_false_iff] at hreset
      rcases hreset with hheld | hends
      · simp [effect, exec, execRestartReset, State.live, hheld]
      · simp [effect, exec, execRestartReset, State.live, hends]
    rw [hsame]; exact h.laws
  | powerOn => simp [State.resets] at hreset
  | nrstAssert =>
    have hlow : s.pins.nrst = false := by simpa [State.resets] using hreset
    have hsame : effect .nrstAssert s = s := by simp [effect, exec, execNrstAssert, State.assertNrst, hlow]
    rw [hsame]; exact h.laws
  | nrstRelease =>
    have hhigh : s.pins.nrst = true := by simpa [State.resets] using hreset
    have hsame : effect .nrstRelease s = s := by simp [effect, exec, execNrstRelease, State.releaseNrst, hhigh]
    rw [hsame]; exact h.laws
  | byteReceived b =>
    exact live (h.hear fun _ hu => ⟨hu.link.takeByte b, State.receiverLaw_takeByte b hu.receiver⟩)
  | rxdReturnsHigh =>
    show State.linkLaw (if s.pins.nrst then s.seeHigh else s.setRxd true) ∧
      State.receiverLaw (if s.pins.nrst then s.seeHigh else s.setRxd true)
    split
    · exact ⟨h.link.seeHigh.linkLaw, h.receiver⟩
    · exact h.posts (.of_eq (by simp)) (by simp)
  | rampTick => exact live (h.posts (rampTick_posts s) (by simp))
  | holdExpiry g => exact live (h.posts (holdRunsOut_posts s g) (by simp))
  | periodBoundary ch => exact live (h.posts (.of_eq (by simp)) (by simp))
  | periodMidpoint ch => exact live (h.posts (midpoint_posts s ch) (by simp))
  | centreAnchorFire ch =>
    refine live ?_
    split
    · exact h.posts (fireCentre_posts s ch) (by simp)
    · exact h.laws
  | cadenceAnchorFire k => exact live (h.posts (fireCadence_posts s k) (by simp))
  | conversionComplete value => exact live (h.posts (completeConversion_posts s value) (by simp))
  | waitLimitExpiry x => exact live (h.posts (.of_eq (by simp)) (by simp))
  | guardPinAssert p =>
    show State.linkLaw (if s.pins.nrst then _ else _) ∧ State.receiverLaw (if s.pins.nrst then _ else _)
    split
    · exact h.posts (assertPin_posts s p) (by simp)
    · exact h.posts (.of_eq (by simp)) (by simp)
  | guardPinDeassert p =>
    show State.linkLaw (if s.pins.nrst then _ else _) ∧ State.receiverLaw (if s.pins.nrst then _ else _)
    split
    · exact h.posts (deassertPin_posts s p) (by simp)
    · exact h.posts (.of_eq (by simp)) (by simp)
  | qualificationExpiry p => exact live (h.posts (expireQualification_posts s p) (by simp))
  | quadratureStep d a b =>
    show State.linkLaw (if s.pins.nrst then _ else _) ∧ State.receiverLaw (if s.pins.nrst then _ else _)
    split
    · exact h.posts (quadrature_posts s d _) (by simp)
    · exact h.posts (.of_eq (by simp)) (by simp)
  | tachEdge => exact live (h.posts (countEdge_posts s 2 true) (by simp))
  | tallyWrap u up => exact live (h.posts (wrappingEdge_posts s u up) (by simp))
  | graceExpiry u => exact live (h.posts (.of_eq (by simp)) (by simp))
  | stall u => exact live (h.posts (detectStall_posts s u) (by simp))

theorem Outbox.Lawful.tick {o : Outbox} (h : o.Lawful) : o.tick.Lawful := by
  unfold Outbox.tick
  split
  · exact ⟨h.replies, h.idle⟩
  · exact h

theorem Outbox.tick_replies (o : Outbox) : o.tick.replies = o.replies := by
  unfold Outbox.tick
  split <;> rfl

/-- A tick of a quiet link: the transmitter may choose, and nothing is taken. -/
theorem tick_link_laws {s : State} (h : s.QuietLink) : s.tick.linkLaw ∧ s.tick.receiverLaw := by
  unfold State.tick
  split
  · refine ⟨State.LinkOk.linkLaw ⟨h.link.requests, h.link.out.choose.tick, fun hne => ?_⟩, h.receiver⟩
    have hmay : (s.advanceTime.putDue (s.advanceTime.dueNow s.clock.microTick s.clock.rampTick)).mayTake = s.mayTake :=
      State.mayTake_of_eq ((Outbox.tick_replies _).trans h.link.out.choose_replies) rfl
    rw [hmay]
    exact h.link.waits hne
  · exact ⟨State.LinkOk.linkLaw ⟨h.link.requests, h.link.out, h.link.waits⟩, h.receiver⟩

/-- Settles O12: what waits for a link break is discarded by it; where none waits, each command leaves nothing that can be
taken. -/
theorem linkLawsKept : Obligations.LinkLawsKept := by
  rintro s t h ⟨hlaw, hreceiver⟩
  obtain ⟨hfour, hout, hwaits⟩ := (State.linkLaw_iff s).mp hlaw
  have hquiet (hno : s.breakNext = false) : s.LinkOk :=
    ⟨hfour, hout, fun hne => (hwaits hne).resolve_right (by simp [hno])⟩
  obtain ⟨hpending, rfl⟩ | ⟨c, rest, hpending, rfl⟩ := step_cases h
  · exact tick_link_laws ⟨hquiet (by simp [State.breakNext, hpending]), hreceiver⟩
  by_cases hc : (s.withRest rest).resets c = true
  · exact laws_of_resets hc
  rw [Bool.not_eq_true] at hc
  by_cases hbreak : c = .linkBreak
  · subst hbreak
    refine linkBreak_laws (s := s.withRest rest) hfour hout (fun hne => (hwaits hne).imp_right fun hb => ?_) hreceiver
    simp only [State.breakNext, Bool.and_eq_true] at hb
    exact ⟨hb.1.1, hb.1.2⟩
  · have hno : s.breakNext = false := by simp [State.breakNext, hpending, hbreak]
    have hlink := hquiet hno
    exact effect_link_laws (s := s.withRest rest) ⟨⟨hlink.requests, hlink.out, hlink.waits⟩, hreceiver⟩ hc hbreak

end Sys2Proof.Machine
end

section
/-! Where a slot stands (R14, R47, R10): on its anchor's wait list, in its level, at the converter, or nowhere. -/

namespace Sys2Proof.Machine

/-! ## One slot -/

/-- A slot stands where its state says: so often on each wait list, so often in each level, at the converter or not; and
its cursor and the values it has taken are those of its state. -/
structure Slot.Placed (v : Slot) (waits : AnchorId → Nat) (stands : Fin 8 → Nat) (converts : Prop) : Prop where
  waits : ∀ a, waits a = if v.state = .waiting ∧ v.defn.anchor = some a then 1 else 0
  stands : ∀ l, stands l = if v.state = .ready ∧ v.defn.level = l then 1 else 0
  anchored : v.state = .waiting → v.defn.anchor.isSome = true
  converts : v.state = .converting ↔ converts
  below : v.state ≠ .free → v.cursor < v.defn.elements.length
  zero : v.state ≠ .converting → v.state ≠ .ready → v.cursor = 0
  partials : v.partials.length = v.cursor

/-- How often a slot stands on an anchor's wait list. -/
def State.waitsOn (s : State) (x : SlotId) (a : AnchorId) : Nat := (s.anchor a).waitList.count x

/-- How often a slot stands in a level of the ready queue. -/
def State.standsIn (s : State) (x : SlotId) (l : Fin 8) : Nat := (s.level l).count x

/-- A slot stands where its state says, with this slot at the converter. -/
def State.SlotOk (who : Option SlotId) (s : State) (x : SlotId) : Prop :=
  (s.slot x).Placed (s.waitsOn x) (s.standsIn x) (who = some x)

/-- Every slot stands where its state says, with this slot at the converter. -/
def State.SlotsOk (who : Option SlotId) (s : State) : Prop := ∀ x, s.SlotOk who x

/-- The slot that converts. -/
def State.convertsFor (s : State) : Option SlotId := s.conv.map (fun v => v.slot)

/-! ## Sums of counts and single counts -/

theorem sum_toList_map {α : Type} {n : Nat} (v : Vector α n) (f : α → Nat) :
    (v.toList.map f).sum = ∑ i : Fin n, f (v.get i) := by
  have hlist : v.toList.map f = List.ofFn (fun i => f (v.get i)) := by
    apply List.ext_getElem
    · simp
    · intro i h1 h2
      simp [Vector.get_eq_getElem]
  rw [hlist, List.sum_ofFn]

/-- Counts that add up to 1, or to 0, with a place where the one must be, are known one by one. -/
theorem sum_eq_indicator_iff {n : Nat} (f : Fin n → Nat) (p : Prop) [Decidable p] (o : Option (Fin n)) :
    ((∑ i, f i = if p then 1 else 0) ∧ (p → ∃ a, o = some a ∧ 0 < f a)) ↔
      (∀ a, f a = if p ∧ o = some a then 1 else 0) ∧ (p → o.isSome = true) := by
  by_cases hp : p
  · simp only [hp, if_true, true_and, true_implies]
    constructor
    · rintro ⟨hsum, a, rfl, hpos⟩
      refine ⟨fun b => ?_, rfl⟩
      have hsplit := Finset.add_sum_erase Finset.univ f (Finset.mem_univ a)
      by_cases hab : a = b
      · subst hab
        simp only [if_true]
        omega
      · have hle := Finset.single_le_sum (f := f) (fun i _ => Nat.zero_le _)
          (Finset.mem_erase.mpr ⟨Ne.symm hab, Finset.mem_univ b⟩)
        simp only [Option.some.injEq, hab, if_false]
        omega
    · rintro ⟨hone, hsome⟩
      obtain ⟨a, rfl⟩ := Option.isSome_iff_exists.mp hsome
      refine ⟨?_, a, rfl, by simp [hone a]⟩
      simp [hone]
  · simp [hp]

theorem State.waitCount_eq (s : State) (x : SlotId) : s.waitCount x = ∑ a, s.waitsOn x a :=
  sum_toList_map s.anchors (fun an => an.waitList.count x)

theorem State.readyCount_eq (s : State) (x : SlotId) : s.readyCount x = ∑ l, s.standsIn x l :=
  sum_toList_map s.ready (fun l => l.count x)

/-- The three laws of the acquisition table say of each slot that it stands where its state says. -/
theorem State.slotsOk_iff (s : State) : s.slotLaw ∧ s.converterLaw ∧ s.cursorLaw ↔ s.SlotsOk s.convertsFor := by
  have hwait (x : SlotId) := sum_eq_indicator_iff (s.waitsOn x) ((s.slot x).state = .waiting) (s.slot x).defn.anchor
  have hready (x : SlotId) := sum_eq_indicator_iff (s.standsIn x) ((s.slot x).state = .ready) (some (s.slot x).defn.level)
  constructor
  · rintro ⟨hslot, hconv, hcursor⟩ x
    obtain ⟨hw, hr, hwaiting, hstands⟩ := hslot x
    obtain ⟨hbelow, hzero, hpartials⟩ := hcursor x
    obtain ⟨hwaits, hanchored⟩ := (hwait x).mp ⟨s.waitCount_eq x ▸ hw, fun h => by
      obtain ⟨a, ha, hmem⟩ := hwaiting h
      exact ⟨a, ha, List.count_pos_iff.mpr hmem⟩⟩
    obtain ⟨hlevels, -⟩ := (hready x).mp ⟨s.readyCount_eq x ▸ hr, fun h => ⟨_, rfl, List.count_pos_iff.mpr (hstands h)⟩⟩
    exact ⟨hwaits, fun l => by simpa using hlevels l, hanchored, hconv x, hbelow, hzero, hpartials⟩
  · intro h
    refine ⟨fun x => ?_, fun x => (h x).converts, fun x => ⟨(h x).below, (h x).zero, (h x).partials⟩⟩
    obtain ⟨hw, hwaiting⟩ := (hwait x).mpr ⟨(h x).waits, (h x).anchored⟩
    obtain ⟨hr, hstands⟩ := (hready x).mpr ⟨fun l => by simpa using (h x).stands l, fun _ => rfl⟩
    refine ⟨s.waitCount_eq x ▸ hw, s.readyCount_eq x ▸ hr, fun hst => ?_, fun hst => ?_⟩
    · obtain ⟨a, ha, hpos⟩ := hwaiting hst
      exact ⟨a, ha, List.count_pos_iff.mp hpos⟩
    · obtain ⟨l, hl, hpos⟩ := hstands hst
      obtain rfl : (s.slot x).defn.level = l := by simpa using hl
      exact List.count_pos_iff.mp hpos

/-! ## What a slot's place depends on -/

theorem State.SlotOk.of_eq {who who' : Option SlotId} {s t : State} {x : SlotId} (h : s.SlotOk who x)
    (hslot : t.slot x = s.slot x) (hwaits : ∀ a, t.waitsOn x a = s.waitsOn x a)
    (hstands : ∀ l, t.standsIn x l = s.standsIn x l) (hwho : who' = some x ↔ who = some x) : t.SlotOk who' x := by
  have hw : t.waitsOn x = s.waitsOn x := funext hwaits
  have hr : t.standsIn x = s.standsIn x := funext hstands
  unfold State.SlotOk
  rw [hslot, hw, hr, propext hwho]
  exact h

theorem State.slotsOk_of_eq {who : Option SlotId} {s t : State} (hslots : t.slots = s.slots)
    (hanchors : t.anchors = s.anchors) (hready : t.ready = s.ready) (h : s.SlotsOk who) : t.SlotsOk who := fun x =>
  (h x).of_eq (by simp [State.slot, hslots]) (fun a => by simp [State.waitsOn, State.anchor, hanchors])
    (fun l => by simp [State.standsIn, State.level, hready]) Iff.rfl

theorem State.waitsOn_setAnchor (s : State) (a b : AnchorId) (an : Anchor) (x : SlotId) :
    (s.setAnchor a an).waitsOn x b = if a = b then an.waitList.count x else s.waitsOn x b := by
  unfold State.waitsOn
  rw [State.anchor_setAnchor]
  split <;> rfl

theorem State.standsIn_setLevel (s : State) (l m : Fin 8) (v : List SlotId) (x : SlotId) :
    (s.setLevel l v).standsIn x m = if l = m then v.count x else s.standsIn x m := by
  unfold State.standsIn
  rw [State.level_setLevel]
  split <;> rfl

/-- The write of another slot leaves a slot's place. -/
theorem State.SlotOk.setSlot {who : Option SlotId} {s : State} {x y : SlotId} (h : s.SlotOk who y) (hne : x ≠ y) (v : Slot) :
    (s.setSlot x v).SlotOk who y :=
  h.of_eq (s.slot_setSlot_ne x y v hne) (fun _ => rfl) (fun _ => rfl) Iff.rfl

/-- The write of a slot that keeps what its place depends on leaves its place. -/
theorem State.SlotsOk.setSlot {who : Option SlotId} {s : State} {x : SlotId} {v : Slot} (h : s.SlotsOk who)
    (hv : v.Placed (s.waitsOn x) (s.standsIn x) (who = some x)) : (s.setSlot x v).SlotsOk who := by
  intro y
  by_cases hxy : x = y
  · subst hxy
    unfold State.SlotOk
    rw [State.slot_setSlot_self]
    exact hv
  · exact (h y).setSlot hxy v

/-! ## A slot that is taken off the lists and placed again -/

/-- A slot stands nowhere; every other slot stands where its state says. -/
structure State.Pulled (who : Option SlotId) (s : State) (x : SlotId) : Prop where
  others : ∀ y, x ≠ y → s.SlotOk who y
  waits : ∀ a, s.waitsOn x a = 0
  stands : ∀ l, s.standsIn x l = 0
  who : who ≠ some x

/-- A slot that neither waits nor is ready nor converts stands nowhere. -/
theorem State.SlotsOk.pulled {who : Option SlotId} {s : State} {x : SlotId} (h : s.SlotsOk who)
    (hwaiting : (s.slot x).state ≠ .waiting) (hready : (s.slot x).state ≠ .ready)
    (hconverting : (s.slot x).state ≠ .converting) : s.Pulled who x :=
  ⟨fun y _ => h y, fun a => by rw [(h x).waits]; simp [hwaiting], fun l => by rw [(h x).stands]; simp [hready],
    fun hwho => hconverting ((h x).converts.mpr hwho)⟩

/-- A converting slot, once the converter is taken from it. -/
theorem State.SlotsOk.pulled_converting {s : State} {x : SlotId} (h : s.SlotsOk (some x)) : s.Pulled none x := by
  have hstate : (s.slot x).state = .converting := (h x).converts.mpr rfl
  refine ⟨fun y hne => (h y).of_eq rfl (fun _ => rfl) (fun _ => rfl) (by simp [hne]), fun a => ?_, fun l => ?_, by simp⟩
  · rw [(h x).waits]; simp [hstate]
  · rw [(h x).stands]; simp [hstate]

theorem State.Pulled.setSlot {who : Option SlotId} {s : State} {x : SlotId} (h : s.Pulled who x) (v : Slot) :
    (s.setSlot x v).Pulled who x :=
  ⟨fun y hne => (h.others y hne).setSlot hne v, h.waits, h.stands, h.who⟩

theorem State.Pulled.of_eq {who : Option SlotId} {s t : State} {x : SlotId} (h : s.Pulled who x)
    (hslots : t.slots = s.slots) (hanchors : t.anchors = s.anchors) (hready : t.ready = s.ready) : t.Pulled who x := by
  have hw (y : SlotId) (a : AnchorId) : t.waitsOn y a = s.waitsOn y a := by simp [State.waitsOn, State.anchor, hanchors]
  have hr (y : SlotId) (l : Fin 8) : t.standsIn y l = s.standsIn y l := by simp [State.standsIn, State.level, hready]
  exact ⟨fun y hne => (h.others y hne).of_eq (by simp [State.slot, hslots]) (hw y) (hr y) Iff.rfl,
    fun a => (hw x a).trans (h.waits a), fun l => (hr x l).trans (h.stands l), h.who⟩

/-- A slot that stands nowhere comes to rest: FREE or IDLE. -/
theorem State.Pulled.setRest {who : Option SlotId} {s : State} {x : SlotId} {v : Slot} (h : s.Pulled who x)
    (hstate : v.state = .free ∨ v.state = .idle) (hbelow : v.state ≠ .free → 0 < v.defn.elements.length)
    (hcursor : v.cursor = 0) (hpartials : v.partials = []) : (s.setSlot x v).SlotsOk who := by
  intro y
  by_cases hxy : x = y
  · subst hxy
    unfold State.SlotOk
    rw [State.slot_setSlot_self]
    refine ⟨fun a => (h.waits a).trans ?_, fun l => (h.stands l).trans ?_, ?_, ?_, ?_, fun _ _ => hcursor, by simp [hpartials, hcursor]⟩
    · rcases hstate with h | h <;> simp [h]
    · rcases hstate with h | h <;> simp [h]
    · rcases hstate with h | h <;> simp [h]
    · simp only [h.who, iff_false]
      rcases hstate with h | h <;> simp [h]
    · rw [hcursor]; exact hbelow
  · exact (h.others y hxy).setSlot hxy v

/-- A slot that stands nowhere enters a level (R44). -/
theorem State.Pulled.setReady {who : Option SlotId} {s : State} {x : SlotId} {v : Slot} (h : s.Pulled who x)
    (pos : InsertPos) (hstate : v.state = .ready) (hbelow : v.cursor < v.defn.elements.length)
    (hpartials : v.partials.length = v.cursor) : ((s.setSlot x v).placeReady x pos).SlotsOk who := by
  have hcount (y : SlotId) (l : List SlotId) : (placeIn pos x l).count y = l.count y + if x = y then 1 else 0 := by
    cases pos <;> simp [placeIn, List.count_cons]
  have hstands (y : SlotId) (l : Fin 8) : ((s.setSlot x v).placeReady x pos).standsIn y l =
      s.standsIn y l + if x = y ∧ v.defn.level = l then 1 else 0 := by
    unfold State.placeReady
    rw [State.standsIn_setLevel, State.slot_setSlot_self]
    by_cases hl : v.defn.level = l
    · simp only [hl, if_true, and_true, hcount]
      rfl
    · simp only [hl, if_false, and_false]
      rfl
  intro y
  have hslot : ((s.setSlot x v).placeReady x pos).slot y = (s.setSlot x v).slot y := by
    simp [State.slot]
  have hwaits (a : AnchorId) : ((s.setSlot x v).placeReady x pos).waitsOn y a = s.waitsOn y a := by
    simp [State.waitsOn, State.anchor]
  by_cases hxy : x = y
  · subst hxy
    unfold State.SlotOk
    rw [hslot, State.slot_setSlot_self]
    refine ⟨fun a => (hwaits a).trans ((h.waits a).trans (by simp [hstate])), fun l => ?_, by simp [hstate],
      by simp [hstate, h.who], fun _ => hbelow, fun _ hne => absurd hstate hne, hpartials⟩
    rw [hstands, h.stands]
    simp [hstate]
  · refine ((h.others y hxy).setSlot hxy v).of_eq hslot hwaits (fun l => ?_) Iff.rfl
    rw [hstands]
    simp only [hxy, false_and, if_false]
    rfl

/-- The order of a wait list adds its slot once (R33). -/
theorem joinWait_perm (levelOf : SlotId → Fin 8) (x : SlotId) (l : List SlotId) : (joinWait levelOf x l).Perm (x :: l) := by
  induction l with
  | nil => exact .refl _
  | cons y l ih =>
    unfold joinWait
    split
    · exact .refl _
    · exact (List.Perm.cons y ih).trans (.swap x y l)

theorem count_joinWait (levelOf : SlotId → Fin 8) (x y : SlotId) (l : List SlotId) :
    (joinWait levelOf x l).count y = l.count y + if x = y then 1 else 0 := by
  rw [(joinWait_perm levelOf x l).count_eq, List.count_cons]
  simp

/-- A slot that stands nowhere joins its anchor's wait list (R33, R38). -/
theorem State.Pulled.setWaiting {who : Option SlotId} {s : State} {x : SlotId} {v : Slot} {a : AnchorId} {an : Anchor}
    (h : s.Pulled who x) (hlist : ∀ y, an.waitList.count y = (s.anchor a).waitList.count y + if x = y then 1 else 0)
    (hstate : v.state = .waiting) (hanchor : v.defn.anchor = some a) (hbelow : 0 < v.defn.elements.length)
    (hcursor : v.cursor = 0) (hpartials : v.partials = []) : ((s.setAnchor a an).setSlot x v).SlotsOk who := by
  have hwaits (y : SlotId) (b : AnchorId) : ((s.setAnchor a an).setSlot x v).waitsOn y b =
      s.waitsOn y b + if x = y ∧ a = b then 1 else 0 := by
    refine (s.waitsOn_setAnchor a b an y).trans ?_
    by_cases hab : a = b
    · subst hab
      simp only [if_true, and_true, hlist]
      rfl
    · simp only [hab, if_false, and_false]
      rfl
  intro y
  by_cases hxy : x = y
  · subst hxy
    unfold State.SlotOk
    rw [State.slot_setSlot_self]
    refine ⟨fun b => ?_, fun l => (h.stands l).trans (by simp [hstate]), fun _ => by simp [hanchor],
      by simp [hstate, h.who], fun _ => hcursor ▸ hbelow, fun _ _ => hcursor, by simp [hpartials, hcursor]⟩
    rw [hwaits, h.waits]
    simp [hstate, hanchor]
  · refine (h.others y hxy).of_eq (State.slot_setSlot_ne _ x y v hxy) (fun b => ?_) (fun _ => rfl) Iff.rfl
    rw [hwaits]
    simp [hxy]

end Sys2Proof.Machine
end

section
/-! Every work keeps every slot where its state says (R10, R14, R47). -/

namespace Sys2Proof.Machine

/-! ## Arming and the completion path (R15, R20 to R23, R38) -/

/-- A slot that stands nowhere is armed against its anchor: it takes a banked firing or waits (R38). -/
theorem State.Pulled.arm {who : Option SlotId} {s : State} {x : SlotId} {a : AnchorId} (h : s.Pulled who x)
    (hanchor : (s.slot x).defn.anchor = some a) (hbelow : 0 < (s.slot x).defn.elements.length)
    (hcursor : (s.slot x).cursor = 0) (hpartials : (s.slot x).partials = []) : (s.arm x a).SlotsOk who := by
  unfold State.arm
  dsimp only
  split
  · have hbank : (s.setAnchor a { s.anchor a with bank := (s.anchor a).bank - 1 }).Pulled who x := by
      have hw (y : SlotId) (b : AnchorId) :
          (s.setAnchor a { s.anchor a with bank := (s.anchor a).bank - 1 }).waitsOn y b = s.waitsOn y b := by
        rw [State.waitsOn_setAnchor]
        split
        · next hab => subst hab; rfl
        · rfl
      exact ⟨fun y hne => (h.others y hne).of_eq rfl (hw y) (fun _ => rfl) Iff.rfl, fun b => (hw x b).trans (h.waits b),
        h.stands, h.who⟩
    refine hbank.setReady _ rfl ?_ ?_
    · show (s.slot x).cursor < _; rw [hcursor]; exact hbelow
    · show (s.slot x).partials.length = (s.slot x).cursor; simp [hpartials, hcursor]
  · exact h.setWaiting (fun y => count_joinWait _ x y _) rfl hanchor hbelow hcursor hpartials

theorem State.Pulled.rest {who : Option SlotId} {s : State} {x : SlotId} (h : s.Pulled who x)
    (hbelow : 0 < (s.slot x).defn.elements.length) : (s.rest x).SlotsOk who :=
  h.setRest (.inr rfl) (fun _ => hbelow) rfl rfl

theorem State.Pulled.rearm {who : Option SlotId} {s : State} {x : SlotId} (h : s.Pulled who x)
    (hbelow : 0 < (s.slot x).defn.elements.length) (hcursor : (s.slot x).cursor = 0) (hpartials : (s.slot x).partials = []) :
    (s.rearm x).SlotsOk who := by
  unfold State.rearm
  split
  · next a ha => exact h.arm ha hbelow hcursor hpartials
  · exact h.rest hbelow

/-- A slot that stands nowhere closes its round and is placed by its completion path (R20 to R23). -/
theorem State.Pulled.finishRound {who : Option SlotId} {s : State} {x : SlotId} (h : s.Pulled who x)
    (hbelow : 0 < (s.slot x).defn.elements.length) : (s.finishRound x).SlotsOk who := by
  have hclosed := h.setSlot (s.slot x).closed
  unfold State.finishRound State.completionPath
  have hslot : (s.setSlot x (s.slot x).closed).slot x = (s.slot x).closed := State.slot_setSlot_self _ _ _
  have hdefn : 0 < ((s.setSlot x (s.slot x).closed).slot x).defn.elements.length := by rw [hslot]; exact hbelow
  have hcounted := hclosed.setSlot { (s.setSlot x (s.slot x).closed).slot x with
    remaining := ((s.setSlot x (s.slot x).closed).slot x).remaining - 1 }
  repeat' split
  · exact hclosed.rest hdefn
  · exact hclosed.rearm hdefn (by rw [hslot]; rfl) (by rw [hslot]; rfl)
  · have hrest : (((s.setSlot x (s.slot x).closed).countRound x).rest x).SlotsOk who := by
      refine State.Pulled.rest (s := (s.setSlot x (s.slot x).closed).countRound x) hcounted ?_
      unfold State.countRound
      rw [State.slot_setSlot_self]; exact hdefn
    exact State.slotsOk_of_eq (by simp) (by simp) (by simp) hrest
  · refine hcounted.rearm ?_ ?_ ?_
    · rw [State.slot_setSlot_self]; exact hdefn
    · rw [State.slot_setSlot_self, hslot]; rfl
    · rw [State.slot_setSlot_self, hslot]; rfl

theorem State.Pulled.finishMissed {who : Option SlotId} {s : State} {x : SlotId} (h : s.Pulled who x)
    (hbelow : 0 < (s.slot x).defn.elements.length) : (s.finishMissed x).SlotsOk who := by
  unfold State.finishMissed
  dsimp only
  refine State.Pulled.finishRound ((h.setSlot { s.slot x with roundTime := s.now }).of_eq (by simp) (by simp) (by simp)) ?_
  have hslots {t : State} (ht : t.slots = (s.setSlot x { s.slot x with roundTime := s.now }).slots) :
      (t.slot x).defn = (s.slot x).defn := by
    have hslot : t.slot x = (s.setSlot x { s.slot x with roundTime := s.now }).slot x := by simp only [State.slot, ht]
    rw [hslot, State.slot_setSlot_self]
  rw [hslots (by simp)]
  exact hbelow

/-! ## Taking a slot off a list -/

/-- A slot that stands on a wait list is WAITING, and that is its anchor's list. -/
theorem State.SlotsOk.waiting_of_mem {who : Option SlotId} {s : State} {x : SlotId} {a : AnchorId} (h : s.SlotsOk who)
    (hmem : x ∈ (s.anchor a).waitList) : (s.slot x).state = .waiting ∧ (s.slot x).defn.anchor = some a := by
  have hcount := (h x).waits a
  have hpos : 0 < s.waitsOn x a := List.count_pos_iff.mpr hmem
  by_contra hno
  rw [if_neg hno] at hcount
  omega

/-- A slot that stands in a level is READY, and that is its level. -/
theorem State.SlotsOk.ready_of_mem {who : Option SlotId} {s : State} {x : SlotId} {l : Fin 8} (h : s.SlotsOk who)
    (hmem : x ∈ s.level l) : (s.slot x).state = .ready ∧ (s.slot x).defn.level = l := by
  have hcount := (h x).stands l
  have hpos : 0 < s.standsIn x l := List.count_pos_iff.mpr hmem
  by_contra hno
  rw [if_neg hno] at hcount
  omega

/-- A level from which a slot is taken out: the slot stands nowhere. -/
theorem State.SlotsOk.pulled_setLevel {who : Option SlotId} {s : State} {x : SlotId} {l : Fin 8} {rest : List SlotId}
    (h : s.SlotsOk who) (hmem : x ∈ s.level l) (hrest : ∀ y, rest.count y = (s.level l).count y - if x = y then 1 else 0) :
    (s.setLevel l rest).Pulled who x := by
  obtain ⟨hstate, hlevel⟩ := h.ready_of_mem hmem
  refine ⟨fun y hne => (h y).of_eq rfl (fun _ => rfl) (fun m => ?_) Iff.rfl, fun a => ?_, fun m => ?_, fun hwho => ?_⟩
  · rw [State.standsIn_setLevel]
    split
    · next hlm => subst hlm; simp [hrest, hne, State.standsIn]
    · rfl
  · exact ((h x).waits a).trans (by simp [hstate])
  · have hm := (h x).stands m
    rw [State.standsIn_setLevel]
    split
    · next hlm =>
      subst hlm
      simp only [hstate, hlevel, and_self, if_true] at hm
      have hone : (s.level l).count x = 1 := hm
      simp [hrest, hone]
    · next hlm => rw [hm]; simp [hlevel, hlm]
  · have hconv := (h x).converts.mpr hwho
    rw [hstate] at hconv
    cases hconv

theorem State.SlotsOk.pulled_head {who : Option SlotId} {s : State} {x : SlotId} {l : Fin 8} {rest : List SlotId}
    (h : s.SlotsOk who) (hlevel : s.level l = x :: rest) : (s.setLevel l rest).Pulled who x :=
  h.pulled_setLevel (by simp [hlevel]) (fun y => by
    rw [hlevel, List.count_cons]
    by_cases hxy : x = y <;> simp [hxy])

theorem State.SlotsOk.pulled_leaveReady {who : Option SlotId} {s : State} {x : SlotId} (h : s.SlotsOk who)
    (hstate : (s.slot x).state = .ready) : (s.leaveReady x).Pulled who x := by
  have hmem : x ∈ s.level (s.slot x).defn.level := by
    have hcount := (h x).stands (s.slot x).defn.level
    rw [if_pos ⟨hstate, rfl⟩] at hcount
    have hone : (s.level (s.slot x).defn.level).count x = 1 := hcount
    exact List.count_pos_iff.mp (by omega)
  refine h.pulled_setLevel hmem (fun y => ?_)
  rw [List.count_erase]
  by_cases hxy : x = y
  · subst hxy; simp
  · simp [hxy]

theorem State.SlotsOk.pulled_leaveWait {who : Option SlotId} {s : State} {x : SlotId} (h : s.SlotsOk who)
    (hstate : (s.slot x).state = .waiting) : (s.leaveWait x).Pulled who x := by
  obtain ⟨a, ha⟩ := Option.isSome_iff_exists.mp ((h x).anchored hstate)
  have hwaits (y : SlotId) (b : AnchorId) : (s.leaveWait x).waitsOn y b = s.waitsOn y b - if x = y ∧ a = b then 1 else 0 := by
    unfold State.leaveWait
    rw [ha]
    dsimp only
    rw [State.waitsOn_setAnchor]
    by_cases hab : a = b
    · subst hab
      rw [if_pos rfl, List.count_erase]
      by_cases hxy : x = y
      · subst hxy; simp [State.waitsOn]
      · simp [hxy, State.waitsOn]
    · simp [hab]
  refine ⟨fun y hne => (h y).of_eq (by simp [State.slot]) (fun b => by simp [hwaits, hne])
    (fun l => by simp [State.standsIn, State.level]) Iff.rfl, fun b => ?_, fun l => ?_, fun hwho => ?_⟩
  · rw [hwaits, (h x).waits]
    simp only [hstate, ha, true_and, Option.some.injEq]
    split <;> rfl
  · have hl : (s.leaveWait x).standsIn x l = s.standsIn x l := by simp [State.standsIn, State.level]
    rw [hl, (h x).stands]
    simp [hstate]
  · have hconv := (h x).converts.mpr hwho
    rw [hstate] at hconv
    cases hconv

/-! ## Firings (R34 to R36) -/

/-- What a firing releases and what it leaves make up the wait list. -/
theorem Anchor.count_releases (an : Anchor) (y : SlotId) :
    an.releases.count y + an.fired.waitList.count y = an.waitList.count y := by
  unfold Anchor.releases Anchor.fired
  split
  · rw [← List.count_append, List.take_append_drop]
  · simp

theorem State.count_ofLevel (s : State) (l : Fin 8) (xs : List SlotId) (y : SlotId) :
    (s.ofLevel l xs).count y = if (s.slot y).defn.level = l then xs.count y else 0 := by
  unfold State.ofLevel
  split
  · next h => exact List.count_filter (by simp [h])
  · next h => exact List.count_eq_zero.mpr (by simp [h])

/-- A firing takes each released slot from its wait list to its level. -/
theorem State.SlotsOk.fireAnchor {who : Option SlotId} {s : State} (h : s.SlotsOk who) (a : AnchorId) :
    (s.fireAnchor a).SlotsOk who := by
  intro y
  have hsplit := (s.anchor a).count_releases y
  have hwaits (b : AnchorId) : (s.fireAnchor a).waitsOn y b =
      if b = a then (s.anchor a).fired.waitList.count y else s.waitsOn y b := by
    unfold State.waitsOn
    rw [State.anchor_fireAnchor]
    split <;> rfl
  have hstands (l : Fin 8) : (s.fireAnchor a).standsIn y l =
      s.standsIn y l + if (s.slot y).defn.level = l then (s.anchor a).releases.count y else 0 := by
    unfold State.standsIn
    rw [State.level_fireAnchor]
    split
    · rw [List.count_append, State.count_ofLevel]
    · rw [List.count_append, State.count_ofLevel, Nat.add_comm]
  by_cases hmem : y ∈ (s.anchor a).releases
  · have hreleased : 0 < (s.anchor a).releases.count y := List.count_pos_iff.mpr hmem
    have hlist : 0 < (s.anchor a).waitList.count y := by omega
    obtain ⟨hstate, hanchor⟩ := h.waiting_of_mem (List.count_pos_iff.mp hlist)
    have hone : (s.anchor a).waitList.count y = 1 := ((h y).waits a).trans (if_pos ⟨hstate, hanchor⟩)
    have hzero := (h y).zero (by simp [hstate]) (by simp [hstate])
    unfold State.SlotOk
    rw [State.slot_fireAnchor, if_pos hmem]
    refine ⟨fun b => ?_, fun l => ?_, by simp [Slot.released], ?_, fun _ => ?_, fun _ _ => hzero, (h y).partials⟩
    · rw [hwaits]
      simp only [Slot.released, reduceCtorEq, false_and, if_false]
      split
      · omega
      · next hba =>
        rw [(h y).waits b, hanchor]
        exact if_neg fun hc => hba (by simpa using hc.2.symm)
    · rw [hstands, (h y).stands l]
      simp only [hstate, Slot.released, reduceCtorEq, false_and, if_false, true_and, Nat.zero_add]
      split
      · omega
      · rfl
    · have hconv := (h y).converts
      rw [hstate] at hconv
      simpa [Slot.released] using hconv
    · exact (h y).below (by simp [hstate])
  · have hnone : (s.anchor a).releases.count y = 0 := List.count_eq_zero.mpr hmem
    refine (h y).of_eq (by rw [State.slot_fireAnchor, if_neg hmem]) (fun b => ?_) (fun l => ?_) Iff.rfl
    · rw [hwaits]
      split
      · next hba =>
        subst hba
        show _ = (s.anchor b).waitList.count y
        omega
      · rfl
    · rw [hstands, hnone]
      simp

end Sys2Proof.Machine
end

section
/-! Every step keeps the laws of the slots, the converter and the cursors (R10, R14, R47). -/

namespace Sys2Proof.Machine

/-- A slot that holds a definition has an element (R10). -/
theorem State.SlotsOk.elements_pos {who : Option SlotId} {s : State} (h : s.SlotsOk who) {x : SlotId}
    (hfree : (s.slot x).state ≠ .free) : 0 < (s.slot x).defn.elements.length :=
  Nat.lt_of_le_of_lt (Nat.zero_le _) ((h x).below hfree)

/-- An ARM-ACQ places an IDLE slot (R15). -/
theorem State.SlotsOk.armSlot {who : Option SlotId} {s : State} (h : s.SlotsOk who) {x : SlotId}
    (hidle : (s.slot x).state = .idle) : (s.armSlot x).SlotsOk who := by
  have helements := h.elements_pos (x := x) (by simp [hidle])
  have hpulled := (h.pulled (x := x) (by simp [hidle]) (by simp [hidle]) (by simp [hidle])).setSlot (s.slot x).loaded
  have hslot : (s.setSlot x (s.slot x).loaded).slot x = (s.slot x).loaded := State.slot_setSlot_self _ _ _
  unfold State.armSlot State.placeArmed
  split
  · refine hpulled.setReady .tail rfl ?_ ?_
    · rw [hslot]; exact helements
    · rw [hslot]; rfl
  · next a ha =>
    refine hpulled.arm ha ?_ ?_ ?_
    · rw [hslot]; exact helements
    · rw [hslot]; rfl
    · rw [hslot]; rfl

/-- The converter takes a slot that stands nowhere (R51). -/
theorem State.Pulled.startConversion {s : State} {x : SlotId} (h : s.Pulled none x)
    (hbelow : (s.slot x).cursor < (s.slot x).defn.elements.length)
    (hpartials : (s.slot x).partials.length = (s.slot x).cursor) :
    (s.startConversion x).SlotsOk (s.startConversion x).convertsFor := by
  intro y
  by_cases hxy : x = y
  · subst hxy
    have hslot : (s.startConversion x).slot x = { s.slot x with
        state := .converting, roundTime := if (s.slot x).cursor = 0 then s.now else (s.slot x).roundTime } := by
      unfold State.startConversion
      exact State.slot_setSlot_self s x _
    unfold State.SlotOk
    rw [hslot]
    exact ⟨fun a => (h.waits a).trans (by simp), fun l => (h.stands l).trans (by simp), by simp,
      iff_of_true rfl rfl, fun _ => hbelow, fun hne => absurd rfl hne, hpartials⟩
  · refine (h.others y hxy).of_eq (State.slot_setSlot_ne s x y _ hxy) (fun _ => rfl) (fun _ => rfl) ?_
    simp [State.convertsFor, State.startConversion, State.startElement, hxy]

/-- Every work of the acquisition table keeps every slot where its state says. -/
theorem State.slotsOk_acqWork {s t : State} (h : AcqWork s t) (hs : s.SlotsOk s.convertsFor) :
    t.SlotsOk t.convertsFor := by
  cases h with
  | define x d hfree helements =>
    have hnot (st : SlotState) (hst : st.inUse = true) : (s.slot x).state ≠ st := fun he => by simp [he, hst] at hfree
    exact (hs.pulled (x := x) (hnot _ rfl) (hnot _ rfl) (hnot _ rfl)).setRest (.inr rfl)
      (fun _ => List.length_pos_iff.mpr helements) rfl rfl
  | free x hidle =>
    exact (hs.pulled (x := x) (by simp [hidle]) (by simp [hidle]) (by simp [hidle])).setRest (.inl rfl)
      (fun hne => absurd rfl hne) rfl rfl
  | arm x hidle =>
    have hconv : (s.armSlot x).convertsFor = s.convertsFor := by simp [State.convertsFor]
    exact hconv ▸ hs.armSlot hidle
  | leaveWait x hwaiting =>
    have hconv : ((s.leaveWait x).rest x).convertsFor = s.convertsFor := by simp [State.convertsFor]
    rw [hconv]
    refine (hs.pulled_leaveWait hwaiting).rest ?_
    have hslot : (s.leaveWait x).slot x = s.slot x := by simp [State.slot]
    rw [hslot]
    exact hs.elements_pos (by simp [hwaiting])
  | leaveReady x hready =>
    exact (hs.pulled_leaveReady hready).rest (hs.elements_pos (x := x) (by simp [hready]))
  | flag x late cancel =>
    obtain ⟨hw, hr, ha, hc, hb, hz, hp⟩ := hs x
    exact hs.setSlot ⟨hw, hr, ha, hc, hb, hz, hp⟩
  | writeAnchor a w =>
    intro y
    refine (hs y).of_eq rfl (fun b => ?_) (fun _ => rfl) Iff.rfl
    rw [State.waitsOn_setAnchor]
    split
    · next hab => subst hab; rfl
    · rfl
  | fireAnchor a =>
    have hconv : (s.fireAnchor a).convertsFor = s.convertsFor := by simp [State.convertsFor]
    exact hconv ▸ hs.fireAnchor a
  | start l x rest hidle hlevel =>
    have hwho : s.convertsFor = none := by simp [State.convertsFor, hidle]
    obtain ⟨hstate, -⟩ := hs.ready_of_mem (x := x) (l := l) (by simp [hlevel])
    have hpulled := hs.pulled_head hlevel
    rw [hwho] at hpulled
    exact hpulled.startConversion ((hs x).below (by simp [hstate])) (hs x).partials
  | store x value hconv hmore =>
    have hstate : (s.slot x).state = .converting := (hs x).converts.mpr hconv
    obtain ⟨hw, hr, ha, hc, -, -, hp⟩ := hs x
    refine hs.setSlot ⟨hw, hr, ha, hc, fun _ => hmore, fun hne => absurd hstate hne, ?_⟩
    simp [hp]
  | nextElement x hconv =>
    have hwho : (s.startElement x).convertsFor = s.convertsFor := by
      rw [show s.convertsFor = some x from hconv]
      rfl
    rw [hwho]
    exact State.slotsOk_of_eq rfl rfl rfl hs
  | yieldSlot x hconv =>
    have hstate : (s.slot x).state = .converting := (hs x).converts.mpr hconv
    rw [show s.convertsFor = some x from hconv] at hs
    exact State.slotsOk_of_eq rfl rfl rfl
      (hs.pulled_converting.setReady (v := { s.slot x with state := .ready }) .head rfl
        ((hs x).below (by simp [hstate])) (hs x).partials)
  | cancelled x hconv =>
    have hstate : (s.slot x).state = .converting := (hs x).converts.mpr hconv
    rw [show s.convertsFor = some x from hconv] at hs
    exact State.slotsOk_of_eq rfl rfl rfl (hs.pulled_converting.rest (hs.elements_pos (by simp [hstate])))
  | closeRound x hconv =>
    have hstate : (s.slot x).state = .converting := (hs x).converts.mpr hconv
    rw [show s.convertsFor = some x from hconv] at hs
    exact State.slotsOk_of_eq rfl rfl rfl (hs.pulled_converting.finishRound (hs.elements_pos (by simp [hstate])))

theorem State.slotsOk_of_frame {s t : State} (hslots : t.slots = s.slots) (hanchors : t.anchors = s.anchors)
    (hready : t.ready = s.ready) (hconv : t.convertsFor = s.convertsFor) (hs : s.SlotsOk s.convertsFor) :
    t.SlotsOk t.convertsFor := hconv ▸ State.slotsOk_of_eq hslots hanchors hready hs

theorem State.slotsOk_work {s t : State} (h : Work s t) (hs : s.SlotsOk s.convertsFor) : t.SlotsOk t.convertsFor := by
  cases h with
  | elsewhere h => exact State.slotsOk_of_frame h.slots h.anchors h.ready (by rw [State.convertsFor, h.conv]; rfl) hs
  | time =>
    refine State.slotsOk_of_frame (s := s) rfl rfl rfl ?_ hs
    simp only [State.convertsFor, State.advanceTime, Option.map_map]
    rfl
  | acq h => exact State.slotsOk_acqWork h hs
  | drive h =>
    obtain ⟨hslots, hanchors, hready, hconv, -⟩ := h.frame
    exact State.slotsOk_of_frame hslots hanchors hready (by rw [State.convertsFor, hconv]; rfl) hs
  | missed l x rest hidle hlevel =>
    obtain ⟨hstate, -⟩ := hs.ready_of_mem (x := x) (l := l) (by simp [hlevel])
    have hconv : ((s.setLevel l rest).finishMissed x).convertsFor = s.convertsFor := by simp [State.convertsFor]
    rw [hconv]
    exact (hs.pulled_head hlevel).finishMissed (hs.elements_pos (x := x) (by simp [hstate]))
  | ringWrite n e =>
    exact State.slotsOk_of_frame (by simp) (by simp) (by simp) (by simp [State.convertsFor]) hs
  | setRing n r =>
    exact State.slotsOk_of_frame (by simp) (by simp) (by simp) (by simp [State.convertsFor]) hs

/-- Settles O5: the three laws say where each slot stands, and every work takes a slot from one place to another. -/
theorem acquisitionLawsKept : Obligations.AcquisitionLawsKept := by
  intro s t h hs
  rw [State.slotsOk_iff] at hs ⊢
  have hreset : State.reset.SlotsOk State.reset.convertsFor := by
    rw [← State.slotsOk_iff]
    decide
  exact step_keeps (P := fun s => s.SlotsOk s.convertsFor) State.slotsOk_work
    (fun _ _ hs => State.slotsOk_of_frame (by simp) (by simp) (by simp) (by simp [State.convertsFor]) hs) hreset h hs

end Sys2Proof.Machine
end

section
/-! Dispatch is made until it starts a conversion or finds the queue empty (R50 to R52), and no request leaves one to make. -/

namespace Sys2Proof.Machine

/-! ## The measure of a chain of dispatches -/

/-- No dispatch is left to make: an idle converter finds the ready queue empty. -/
def State.Settled (s : State) : Prop := s.conv = none → ∀ l, s.level l = []

theorem State.Settled.of_eq {s t : State} (h : s.Settled) (hconv : t.conv = s.conv) (hready : t.ready = s.ready) :
    t.Settled := by
  intro hidle l
  have hlevel : t.level l = s.level l := by simp only [State.level, hready]
  rw [hlevel]
  exact h (hconv ▸ hidle) l

theorem State.settled_of_converting {s : State} (h : s.conv.isSome = true) : s.Settled := by
  intro hidle
  simp [hidle] at h

theorem State.mostUrgent_eq_none {s : State} (h : s.mostUrgent = none) (l : Fin 8) : s.level l = [] := by
  have hmem : l ∈ allLevels := by revert l; decide
  have hl := List.findSome?_eq_none_iff.mp h l hmem
  split at hl
  · assumption
  · cases hl

/-- What a chain of dispatches uses up: slots in the ready queue and banked firings (R52). -/
def State.chainMeasure (s : State) : Nat := ∑ l, (s.level l).length + ∑ a, (s.anchor a).bank

theorem State.chainBound_eq (s : State) : s.chainBound = s.chainMeasure + 1 := by
  unfold State.chainBound State.chainMeasure
  rw [sum_toList_map s.ready List.length, sum_toList_map s.anchors (fun a => a.bank)]
  rfl

/-- A sum in which one term is written. -/
theorem sum_write {n : Nat} (f : Fin n → Nat) (i : Fin n) (v : Nat) :
    (∑ j, if i = j then v else f j) + f i = ∑ j, f j + v := by
  rw [← Finset.add_sum_erase Finset.univ f (Finset.mem_univ i),
    ← Finset.add_sum_erase Finset.univ (fun j => if i = j then v else f j) (Finset.mem_univ i)]
  have hrest : ∑ j ∈ Finset.univ.erase i, (if i = j then v else f j) = ∑ j ∈ Finset.univ.erase i, f j :=
    Finset.sum_congr rfl fun j hj => if_neg (Finset.ne_of_mem_erase hj).symm
  rw [hrest]
  simp only [if_true]
  omega

theorem State.sum_setLevel (s : State) (l : Fin 8) (v : List SlotId) :
    ∑ m, ((s.setLevel l v).level m).length + (s.level l).length = ∑ m, (s.level m).length + v.length := by
  rw [← sum_write (fun m => (s.level m).length) l v.length]
  congr 1
  refine Finset.sum_congr rfl fun m _ => ?_
  rw [State.level_setLevel]
  split <;> rfl

theorem State.sum_setAnchor (s : State) (a : AnchorId) (an : Anchor) :
    ∑ b, ((s.setAnchor a an).anchor b).bank + (s.anchor a).bank = ∑ b, (s.anchor b).bank + an.bank := by
  rw [← sum_write (fun b => (s.anchor b).bank) a an.bank]
  congr 1
  refine Finset.sum_congr rfl fun b _ => ?_
  rw [State.anchor_setAnchor]
  split <;> rfl

theorem State.chainMeasure_of_eq {s t : State} (hready : t.ready = s.ready) (hanchors : t.anchors = s.anchors) :
    t.chainMeasure = s.chainMeasure := by
  simp only [State.chainMeasure, State.level, State.anchor, hready, hanchors]

theorem State.chainMeasure_enterReady (s : State) (x : SlotId) (pos : InsertPos) :
    (s.enterReady x pos).chainMeasure = s.chainMeasure + 1 := by
  have hplace : s.enterReady x pos = (s.setSlot x { s.slot x with state := .ready, readySince := s.now }).setLevel
      (s.slot x).defn.level (placeIn pos x (s.level (s.slot x).defn.level)) := by
    simp [State.enterReady, State.placeReady, State.level]
  have hlength : (placeIn pos x (s.level (s.slot x).defn.level)).length = (s.level (s.slot x).defn.level).length + 1 := by
    cases pos <;> simp [placeIn]
  have hsum := State.sum_setLevel (s.setSlot x { s.slot x with state := .ready, readySince := s.now })
    (s.slot x).defn.level (placeIn pos x (s.level (s.slot x).defn.level))
  rw [hplace]
  unfold State.chainMeasure
  have hlevel (m : Fin 8) : (s.setSlot x { s.slot x with state := .ready, readySince := s.now }).level m = s.level m := rfl
  have hanchor (b : AnchorId) : ((s.setSlot x { s.slot x with state := .ready, readySince := s.now }).setLevel
      (s.slot x).defn.level (placeIn pos x (s.level (s.slot x).defn.level))).anchor b = s.anchor b := rfl
  simp only [hlevel, hlength] at hsum
  simp only [hanchor]
  omega

/-- An arming takes as much from the bank as it puts into the queue (R38). -/
theorem State.chainMeasure_arm (s : State) (x : SlotId) (a : AnchorId) : (s.arm x a).chainMeasure = s.chainMeasure := by
  unfold State.arm
  dsimp only
  split
  · next h =>
    rw [State.chainMeasure_enterReady]
    have hsum := State.sum_setAnchor s a { s.anchor a with bank := (s.anchor a).bank - 1 }
    have hlevel (m : Fin 8) : (s.setAnchor a { s.anchor a with bank := (s.anchor a).bank - 1 }).level m = s.level m := rfl
    unfold State.chainMeasure
    simp only [hlevel]
    dsimp only at hsum
    omega
  · have hsum := State.sum_setAnchor s a { s.anchor a with
      waitList := joinWait (fun y => (s.slot y).defn.level) x (s.anchor a).waitList }
    dsimp only at hsum
    show State.chainMeasure (s.setAnchor a _) = _
    unfold State.chainMeasure
    have hlevel (m : Fin 8) : (s.setAnchor a { s.anchor a with
      waitList := joinWait (fun y => (s.slot y).defn.level) x (s.anchor a).waitList }).level m = s.level m := rfl
    simp only [hlevel]
    omega

theorem State.chainMeasure_rearm (s : State) (x : SlotId) : (s.rearm x).chainMeasure = s.chainMeasure := by
  unfold State.rearm
  split
  · exact s.chainMeasure_arm x _
  · exact State.chainMeasure_of_eq (by simp) (by simp)

theorem State.chainMeasure_finishRound (s : State) (x : SlotId) : (s.finishRound x).chainMeasure = s.chainMeasure := by
  have hclosed : (s.setSlot x (s.slot x).closed).chainMeasure = s.chainMeasure := rfl
  unfold State.finishRound State.completionPath
  repeat' split
  · exact State.chainMeasure_of_eq (by simp) (by simp)
  · rw [State.chainMeasure_rearm, hclosed]
  · exact State.chainMeasure_of_eq (by simp) (by simp)
  · rw [State.chainMeasure_rearm]
    exact State.chainMeasure_of_eq (by simp) (by simp)

theorem State.chainMeasure_finishMissed (s : State) (x : SlotId) : (s.finishMissed x).chainMeasure = s.chainMeasure := by
  unfold State.finishMissed
  dsimp only
  rw [State.chainMeasure_finishRound]
  exact State.chainMeasure_of_eq (by simp) (by simp)

/-- A chain of dispatches as long as its bound leaves none to make (R52). -/
theorem State.settled_dispatchChain {n : Nat} {s : State} (h : s.chainMeasure < n) : (State.dispatchChain n s).Settled := by
  induction n generalizing s with
  | zero => omega
  | succ n ih =>
    simp only [State.dispatchChain]
    split
    · next v hconv => exact State.settled_of_converting (by simp [hconv])
    · next hurgent => exact fun _ => State.mostUrgent_eq_none hurgent
    · next l x rest hconv hurgent =>
      have hlevel := State.mostUrgent_level hurgent
      split
      · refine ih ?_
        rw [State.chainMeasure_finishMissed]
        have hsum := s.sum_setLevel l rest
        have hanchor (b : AnchorId) : (s.setLevel l rest).anchor b = s.anchor b := rfl
        rw [hlevel, List.length_cons] at hsum
        unfold State.chainMeasure at h ⊢
        simp only [hanchor]
        omega
      · exact State.settled_of_converting rfl

theorem State.settled_dispatch (s : State) : s.dispatch.Settled :=
  State.settled_dispatchChain (by rw [State.chainBound_eq]; exact Nat.lt_succ_self _)

end Sys2Proof.Machine
end

section
/-! No command leaves a dispatch to make, but for a moment whose dispatch a cancel behind it makes (R41, R50, R59). -/

namespace Sys2Proof.Machine

/-! ## Settling -/

/-- No dispatch is left to make, or the next command takes a cancel of a READY slot and makes it. -/
def State.Dispatched (s : State) : Prop := s.Settled ∨ s.cancelNext = true

theorem State.dispatchLaw_iff (s : State) : s.dispatchLaw ↔ s.Dispatched := by
  unfold State.Dispatched State.Settled
  by_cases hc : s.cancelNext = true <;> simp [State.dispatchLaw, hc]

theorem State.Settled.dispatched {s : State} (h : s.Settled) : s.Dispatched := .inl h

theorem State.dispatched_settle (s : State) : s.settle.Dispatched := by
  unfold State.settle
  split
  · next hcancel => exact .inr hcancel
  · exact .inl s.settled_dispatch

theorem State.dispatched_fire (s : State) (a : AnchorId) : (s.fire a).Dispatched := (s.fireAnchor a).dispatched_settle

/-- With no command behind, no cancel makes the dispatch. -/
theorem State.Dispatched.settled {s : State} (h : s.Dispatched) (hpending : s.pending = []) : s.Settled :=
  h.resolve_right (by simp [s.cancelNext_of_pending_nil hpending])

theorem dispatched_ite {p : Prop} [Decidable p] {a b : State} (ha : p → a.Dispatched) (hb : ¬ p → b.Dispatched) :
    (if p then a else b).Dispatched := by
  split
  · exact ha ‹_›
  · exact hb ‹_›

/-! ## The guard unit -/

theorem State.Settled.tripWork {s : State} (h : s.Settled) (n : SourceId) : (s.tripWork n).Dispatched := by
  unfold State.tripWork State.tripOptions
  dsimp only
  refine dispatched_ite (fun _ => State.dispatched_fire _ _) fun _ => dispatched_ite (fun _ => ?_) (fun _ => ?_)
  · exact (h.of_eq (by simp) (by simp)).dispatched
  · exact (h.of_eq (by simp) (by simp)).dispatched

theorem State.Settled.tripPin {s : State} (h : s.Settled) (n : SourceId) : (s.tripPin n).Dispatched :=
  State.Settled.tripWork (h.of_eq (by simp) (by simp)) n

theorem State.Settled.seeAsserted {s : State} (h : s.Settled) (n : SourceId) : (s.seeAsserted n).Dispatched :=
  dispatched_ite (fun _ => h.tripPin n) (fun _ => (h.of_eq (by simp) (by simp)).dispatched)

theorem State.Settled.internalCondition {s : State} (h : s.Settled) (n : SourceId) :
    (s.internalCondition n).Dispatched := by
  refine dispatched_ite (fun _ => h.dispatched) fun _ => ?_
  split
  · exact State.Settled.tripWork (h.of_eq (by simp) (by simp)) n
  · exact (h.of_eq (by simp) (by simp)).dispatched
  · exact h.dispatched

theorem State.Settled.assertPin {s : State} (h : s.Settled) (p : Fin 8) : (s.assertPin p).Dispatched := by
  have hgin (level : Bool) : (s.setGin p level).Settled := h.of_eq (by simp) (by simp)
  exact dispatched_ite (fun _ => (hgin _).seeAsserted _) (fun _ => (hgin _).dispatched)

theorem State.Settled.deassertPin {s : State} (h : s.Settled) (p : Fin 8) : (s.deassertPin p).Dispatched :=
  (h.of_eq (by simp) (by simp)).dispatched

theorem State.Settled.expireQualification {s : State} (h : s.Settled) (p : Fin 8) : (s.expireQualification p).Dispatched :=
  dispatched_ite (fun _ => h.tripPin _) (fun _ => h.dispatched)

/-! ## The converter, the anchors and the counting units -/

theorem State.Settled.completeConversion {s : State} (h : s.Settled) (value : Count) :
    (s.completeConversion value).Dispatched := by
  unfold State.completeConversion
  split
  · exact h.dispatched
  · refine dispatched_ite (fun _ => State.dispatched_settle _) fun _ => dispatched_ite (fun _ => State.dispatched_settle _)
      fun _ => dispatched_ite (fun _ => State.dispatched_settle _) fun _ => ?_
    exact (State.settled_of_converting rfl).dispatched

theorem State.Settled.midpoint {s : State} (h : s.Settled) (c : ChanId) : (s.midpoint c).Dispatched :=
  dispatched_ite (fun _ => h.dispatched) fun _ =>
    dispatched_ite (fun _ => State.dispatched_fire _ _) (fun _ => (h.of_eq (by simp) (by simp)).dispatched)

theorem State.Settled.fireCadence {s : State} (h : s.Settled) (k : Fin 4) : (s.fireCadence k).Dispatched :=
  dispatched_ite (fun _ => State.dispatched_fire _ _) (fun _ => h.dispatched)

theorem State.Settled.countEdge {s : State} (h : s.Settled) (u : UnitId) (up : Bool) : (s.countEdge u up).Dispatched :=
  dispatched_ite (fun _ => State.dispatched_fire _ _) (fun _ => (h.of_eq (by simp) (by simp)).dispatched)

theorem State.Settled.quadrature {s : State} (h : s.Settled) (d : Fin 2) (p : LinePair) : (s.quadrature d p).Dispatched := by
  have hlines : (s.setLines d p).Settled := h.of_eq (by simp) (by simp)
  have hpair : ((s.setLines d p).takePair d p).Settled := h.of_eq (by simp) (by simp)
  exact dispatched_ite (fun _ => hlines.dispatched) fun _ => dispatched_ite (fun _ => hpair.countEdge _ _) fun _ =>
    dispatched_ite (fun _ => hpair.countEdge _ _) (fun _ => (hpair.of_eq (by simp) (by simp)).dispatched)

theorem State.Settled.wrappingEdge {s : State} (h : s.Settled) (u : UnitId) (up : Bool) :
    (s.wrappingEdge u up).Dispatched := by
  refine dispatched_ite (fun _ => h.dispatched) fun _ => ?_
  split
  · exact h.quadrature 0 _
  · exact h.quadrature 1 _
  · exact dispatched_ite (fun _ => h.countEdge 2 true) (fun _ => h.dispatched)

/-- A unit that disarms has no part in what the next command takes. -/
theorem State.Dispatched.setCounter {s : State} (h : s.Dispatched) (u : UnitId) (k : Counter) :
    (s.setCounter u k).Dispatched :=
  h.imp (fun hs => hs.of_eq (by simp) (by simp)) id

theorem State.Settled.detectStall {s : State} (h : s.Settled) (u : UnitId) : (s.detectStall u).Dispatched :=
  dispatched_ite
    (fun _ => (State.Settled.internalCondition (s := s.post .stall u.val (BitVec.ofNat 16 (s.watched u)))
      (h.of_eq (by simp) (by simp)) (stallSource u)).setCounter u _)
    (fun _ => h.dispatched)

/-! ## The requests (R158: a request is taken whole) -/

theorem State.settled_alone {s : State} {work : State → State} (h : (work { s with pending := [] }).Settled) :
    (s.alone work).Settled := h.of_eq (by rfl) (by rfl)

theorem State.Settled.writeGuard {s : State} (h : s.Settled) (n : SourceId) (w : GuardWrite) : (s.writeGuard n w).Settled := by
  have hset : (s.setSource n ((s.source n).configured w)).Settled := h.of_eq (by simp) (by simp)
  unfold State.writeGuard State.seePin
  split
  · refine State.settled_alone (State.Dispatched.settled (State.Settled.seeAsserted ?_ n) (by simp))
    exact hset.of_eq (by rfl) (by rfl)
  · exact hset

theorem State.Settled.clearTrip {s : State} (h : s.Settled) (n : SourceId) : (s.clearTrip n).Settled := by
  have hset : (s.setSource n (s.source n).cleared).Settled := h.of_eq (by simp) (by simp)
  unfold State.clearTrip State.afterClear
  repeat' split
  · refine State.settled_alone (State.Dispatched.settled (State.Settled.tripPin ?_ n) (by simp))
    exact hset.of_eq (by rfl) (by rfl)
  · exact hset.of_eq (by simp) (by simp)
  · exact hset.of_eq (by simp) (by simp)
  · exact h

theorem State.Settled.cancelSlot {s : State} (h : s.Settled) (x : SlotId) : (s.cancelSlot x).Settled := by
  unfold State.cancelSlot
  split
  · exact h.of_eq (by simp) (by simp)
  · exact State.settled_dispatch _
  · exact h.of_eq (by simp) (by simp)
  · exact h

theorem State.Settled.takeRequest {s : State} (h : s.Settled) (k : RequestKind) (p : List Byte) :
    (k.take p s).state.Settled := by
  cases k with
  | ping | readCounters => exact h
  | status | restart => exact h.of_eq (by rfl) (by rfl)
  | setChannel =>
    simp only [RequestKind.take, takeSetChannel]
    repeat' split
    all_goals exact h.of_eq (by simp [State.refuse]) (by simp [State.refuse])
  | drive =>
    simp only [RequestKind.take, takeDrive]
    repeat' split
    all_goals exact h.of_eq (by simp [State.refuse]) (by simp [State.refuse])
  | stopAll =>
    simp only [RequestKind.take, takeStopAll]
    split
    all_goals exact h.of_eq (by simp [State.refuse, State.stopAll]) (by simp [State.refuse, State.stopAll])
  | setProfile =>
    simp only [RequestKind.take, takeSetProfile]
    repeat' split
    all_goals exact h.of_eq (by simp [State.refuse]) (by simp [State.refuse])
  | selectProfile =>
    simp only [RequestKind.take, takeSelectProfile]
    repeat' split
    all_goals exact h.of_eq (by simp [State.refuse]) (by simp [State.refuse])
  | snapshot => rw [RequestKind.take, snapshot_state]; exact h
  | defineAcq =>
    simp only [RequestKind.take, takeDefineAcq]
    repeat' split
    all_goals exact h.of_eq (by simp [State.refuse]) (by simp [State.refuse])
  | armAcq =>
    simp only [RequestKind.take, takeArmAcq]
    repeat' split
    · exact h
    · exact State.settled_dispatch _
    · exact h
  | cancelAcq =>
    simp only [RequestKind.take, takeCancelAcq]
    repeat' split
    · exact h
    · exact h
    · exact h.cancelSlot _
  | releaseAcq =>
    simp only [RequestKind.take, takeReleaseAcq]
    repeat' split
    all_goals exact h.of_eq (by simp [State.refuse]) (by simp [State.refuse])
  | setAnchor =>
    simp only [RequestKind.take, takeSetAnchor]
    repeat' split
    all_goals exact h.of_eq (by simp [State.refuse]) (by simp [State.refuse])
  | setRing =>
    simp only [RequestKind.take, takeSetRing]
    repeat' split
    all_goals exact h.of_eq (by simp [State.refuse]) (by simp [State.refuse])
  | readRing =>
    simp only [RequestKind.take, takeReadRing]
    repeat' split
    all_goals exact h.of_eq (by simp [State.refuse]) (by simp [State.refuse])
  | setGuard =>
    simp only [RequestKind.take, takeSetGuard]
    repeat' split
    · exact h
    · exact h
    · exact h
    · exact h.writeGuard _ _
  | clearTrip =>
    simp only [RequestKind.take, takeClearTrip]
    repeat' split
    · exact h
    · exact h
    · exact h.clearTrip _
  | setCounter =>
    simp only [RequestKind.take, takeSetCounter]
    repeat' split
    all_goals exact h.of_eq (by simp [State.refuse]) (by simp [State.refuse])

theorem State.Settled.take {s : State} (h : s.Settled) (r : Request) : (s.take r).Settled := by
  have hanswer : (r.answer s).state.Settled := by
    unfold Request.answer
    repeat' split
    · exact h
    · exact h.takeRequest _ _
    · exact h
  exact hanswer.of_eq (by simp [State.take]) (by simp [State.take])

theorem State.Settled.takeChain {s : State} (h : s.Settled) (n : Nat) : (State.takeChain n s).Settled := by
  induction n generalizing s with
  | zero => exact h
  | succ n ih =>
    unfold State.takeChain
    split
    · exact h
    · split
      · exact ih (State.Settled.take (h.of_eq (by simp) (by simp)) _)
      · exact h

theorem State.Settled.enqueue {s : State} (h : s.Settled) (r : Request) : (s.enqueue r).Settled := by
  unfold State.enqueue State.join
  split
  · exact h.of_eq (by simp) (by simp)
  · exact State.Settled.takeChain (h.of_eq (by simp) (by simp)) _

theorem State.Settled.hear {s : State} (h : s.Settled) {work : State → State} (hwork : ∀ u : State, u.Settled → (work u).Settled) :
    (s.hear work).Settled := by
  unfold State.hear
  split
  · exact hwork _ (h.of_eq (by simp) (by simp))
  · exact h

theorem State.Settled.completeFrame {s : State} (h : s.Settled) (bytes : List Byte) : (s.completeFrame bytes).Settled := by
  unfold State.completeFrame
  split
  · exact h.of_eq (by simp) (by simp)
  · split
    · unfold State.join
      split
      · exact h.of_eq (by simp) (by simp)
      · exact h.of_eq (by simp) (by simp)
    · exact State.Settled.enqueue (h.of_eq (by simp) (by simp)) _

theorem State.Settled.takeByte {s : State} (h : s.Settled) (b : Byte) : (s.takeByte b).Settled := by
  unfold State.takeByte State.frameByte
  repeat' split
  · exact h.of_eq (by simp) (by simp)
  · exact h
  · exact h.of_eq (by simp) (by simp)
  · exact h.of_eq (by simp) (by simp)
  · exact h.completeFrame _
  · exact h.of_eq (by simp) (by simp)

/-- A command that finds no dispatch to make leaves none, or one that a cancel behind it makes. -/
theorem State.Settled.effect {s : State} (h : s.Settled) {c : Instr} (hreset : s.resets c = false) :
    (effect c s).Dispatched := by
  have live {t : State} (ht : t.Dispatched) : (if s.pins.nrst then t else s).Dispatched :=
    dispatched_ite (fun _ => ht) (fun _ => h.dispatched)
  have frame {t : State} (hconv : t.conv = s.conv) (hready : t.ready = s.ready) : t.Dispatched :=
    (h.of_eq hconv hready).dispatched
  cases c with
  | ping tag p | status tag p | restart tag p | setChannel tag p | drive tag p | stopAll tag p | setProfile tag p
  | selectProfile tag p | snapshot tag p | defineAcq tag p | armAcq tag p | cancelAcq tag p | releaseAcq tag p
  | setAnchor tag p | setRing tag p | readRing tag p | setGuard tag p | clearTrip tag p | setCounter tag p
  | readCounters tag p | unknownKind tag kind p => exact live (h.hear fun _ hu => hu.enqueue _).dispatched
  | frameReceived bytes => exact live (h.hear fun _ hu => hu.completeFrame bytes).dispatched
  | interByteGapTimeout => exact live (frame (by simp) (by simp))
  | framingError => exact live (h.hear fun _ hu => hu.of_eq (by simp) (by simp)).dispatched
  | linkBreak =>
    refine dispatched_ite (fun _ => dispatched_ite (fun _ => ?_) (fun _ => ?_)) (fun _ => ?_)
    all_goals exact frame (by simp) (by simp)
  | frameTransmitted =>
    rcases frameTransmitted_serves hreset with heq | heq
    · rw [heq]; exact h.dispatched
    · rw [heq]
      exact (State.Settled.takeChain (s := s.freeTransmitter) (h.of_eq rfl rfl) _).dispatched
  | restartReset =>
    refine dispatched_ite (fun hlive => ?_) (fun _ => h.dispatched)
    have hends : s.restartReplyEnds = false := by simpa [State.resets, hlive] using hreset
    simpa [hends] using h.dispatched
  | powerOn => simp [State.resets] at hreset
  | nrstAssert =>
    have hlow : s.pins.nrst = false := by simpa [State.resets] using hreset
    have hsame : Machine.effect .nrstAssert s = s := by simp [Machine.effect, exec, execNrstAssert, State.assertNrst, hlow]
    rw [hsame]; exact h.dispatched
  | nrstRelease =>
    have hhigh : s.pins.nrst = true := by simpa [State.resets] using hreset
    have hsame : Machine.effect .nrstRelease s = s := by simp [Machine.effect, exec, execNrstRelease, State.releaseNrst, hhigh]
    rw [hsame]; exact h.dispatched
  | rampTick => exact live (frame (by simp) (by simp))
  | holdExpiry g => exact live (frame (by simp) (by simp))
  | periodBoundary ch => exact live (frame (by simp) (by simp))
  | periodMidpoint ch => exact live (h.midpoint ch)
  | centreAnchorFire ch => exact live (dispatched_ite (fun _ => State.dispatched_fire _ _) (fun _ => h.dispatched))
  | cadenceAnchorFire k => exact live (h.fireCadence k)
  | conversionComplete value => exact live (h.completeConversion value)
  | waitLimitExpiry x => exact live (frame (by simp) (by simp))
  | guardPinAssert p => exact dispatched_ite (fun _ => h.assertPin p) (fun _ => frame (by simp) (by simp))
  | guardPinDeassert p => exact dispatched_ite (fun _ => h.deassertPin p) (fun _ => frame (by simp) (by simp))
  | qualificationExpiry p => exact live (h.expireQualification p)
  | quadratureStep d a b => exact dispatched_ite (fun _ => h.quadrature d _) (fun _ => frame (by simp) (by simp))
  | tachEdge => exact live (h.countEdge 2 true)
  | tallyWrap u up => exact live (h.wrappingEdge u up)
  | graceExpiry u => exact live (frame (by simp) (by simp))
  | stall u => exact live (h.detectStall u)
  | byteReceived b => exact live (h.hear fun _ hu => hu.takeByte b).dispatched
  | rxdReturnsHigh => exact dispatched_ite (fun _ => frame (by simp) (by simp)) (fun _ => frame (by simp) (by simp))

/-! ## The cancel that makes the dispatch (R41, R59) -/

/-- A CANCEL-ACQ of a READY slot makes the dispatch (R41, R50, R59). -/
theorem State.settled_take_of_cancelsReady {s : State} {r : Request} (h : s.cancelsReady r = true) : (s.take r).Settled := by
  simp only [State.cancelsReady, Bool.and_eq_true, bne_iff_ne, ne_eq, beq_iff_eq] at h
  obtain ⟨⟨⟨-, hkind⟩, hlength⟩, hslot⟩ := h
  split at hslot
  · next y hy =>
    have hready : (s.slot y).state = .ready := by simpa using hslot
    have hanswer : (r.answer s).state = ((s.leaveReady y).rest y).dispatch := by
      have hcode : RequestKind.ofCode r.kind = some .cancelAcq := by rw [hkind]; rfl
      simp [Request.answer, hcode, hlength, RequestKind.payloadLength, RequestKind.take, takeCancelAcq, hy, hready,
        State.cancelSlot]
    have hsettled : (r.answer s).state.Settled := hanswer ▸ State.settled_dispatch _
    exact hsettled.of_eq (by simp [State.take]) (by simp [State.take])
  · cases hslot

/-- Taking that begins with such a cancel leaves no dispatch to make. -/
theorem State.settled_takeAll_of_cancelsReady {s : State} {r : Request} {rs : List Request} (hreq : s.link.requests = r :: rs)
    (hmay : s.mayTake = true) (hcancel : s.cancelsReady r = true) : s.takeAll.Settled := by
  unfold State.takeAll
  rw [hreq, List.length_cons]
  simp only [State.takeChain, hreq, hmay, if_true]
  exact State.Settled.takeChain (State.settled_take_of_cancelsReady (s := s.setRequests rs) hcancel) _

/-- The cancel arrives on a link where nothing waits. -/
theorem State.settled_enqueue_of_cancelsReady {s : State} {r : Request} (hreq : s.link.requests = [])
    (hmay : s.mayTake = true) (hcancel : s.cancelsReady r = true) : (s.enqueue r).Settled := by
  have hc := hcancel
  simp only [State.cancelsReady, Bool.and_eq_true, bne_iff_ne, ne_eq, beq_iff_eq] at hc
  obtain ⟨⟨⟨htag, -⟩, hlength⟩, -⟩ := hc
  unfold State.enqueue State.join
  have hjoins : ¬ (r.tag = 0 ∨ 248 < r.payload.length ∨ 4 ≤ s.link.requests.length) := by
    rw [hlength, hreq]
    exact fun h => h.elim htag (by simp)
  rw [if_neg hjoins, hreq, List.nil_append]
  exact State.settled_takeAll_of_cancelsReady (s := s.setRequests [r]) rfl hmay hcancel

theorem State.settled_completeFrame_of_cancelsReady {s : State} {r : Request} {bytes : List Byte}
    (hreq : s.link.requests = []) (hmay : s.mayTake = true) (hgood : goodFrame bytes = some r)
    (hbreak : s.breakNext = false) (hcancel : s.cancelsReady r = true) : (s.completeFrame bytes).Settled := by
  unfold State.completeFrame
  rw [hgood]
  simp only [hbreak, Bool.false_eq_true, if_false]
  exact State.settled_enqueue_of_cancelsReady (s := s.setReceiver .hunt) hreq hmay hcancel

/-- A good frame has the length its first byte announces (R156). -/
theorem goodFrame_length {bytes : List Byte} {r : Request} (h : goodFrame bytes = some r) :
    ∃ len rest, bytes = len :: rest ∧ lengthFits len = true ∧ bytes.length = len.toNat + 2 := by
  unfold goodFrame at h
  split at h
  · next len tag kind rest =>
    split at h
    · next hfits =>
      simp only [Bool.and_eq_true, beq_iff_eq] at hfits
      exact ⟨len, _, rfl, hfits.1.1, hfits.1.2⟩
    · cases h
  · cases h

theorem State.takeByte_of_goodFrame {s : State} {b : Byte} {taken : List Byte} {r : Request} (hmode : s.link.mode = .frame taken)
    (hgood : goodFrame (taken ++ [b]) = some r) : s.takeByte b = s.completeFrame (taken ++ [b]) := by
  obtain ⟨len, rest, hbytes, hfits, hlength⟩ := goodFrame_length hgood
  rw [hbytes] at hlength
  simp [State.takeByte, hmode, State.frameByte, hbytes, hfits, hlength]

/-- The commands that bring a request which can be a CANCEL-ACQ, and is taken as it comes. -/
theorem State.arrivingNext_cases {s : State} {c : Instr} {rest : List Instr} {r : Request} (hpending : s.pending = c :: rest)
    (h : s.arrivingNext = some r) :
    (∃ tag p, c = .cancelAcq tag p ∧ r = { tag, kind := RequestKind.cancelAcq.code, payload := p }) ∨
    (∃ tag kind p, c = .unknownKind tag kind p ∧ r = { tag, kind, payload := p }) ∨
    (∃ bytes, c = .frameReceived bytes ∧ rest.head? ≠ some .linkBreak ∧ goodFrame bytes = some r) ∨
    (∃ b taken, c = .byteReceived b ∧ s.link.mode = .frame taken ∧ rest.head? ≠ some .linkBreak ∧
      goodFrame (taken ++ [b]) = some r) := by
  unfold State.arrivingNext at h
  rw [hpending] at h
  cases c with
  | cancelAcq tag p => exact .inl ⟨tag, p, rfl, (Option.some.inj h).symm⟩
  | unknownKind tag kind p => exact .inr (.inl ⟨tag, kind, p, rfl, (Option.some.inj h).symm⟩)
  | frameReceived bytes =>
    have hframe : (if rest.head? = some .linkBreak then none else goodFrame bytes) = some r := h
    split at hframe
    · cases hframe
    · next hno => exact .inr (.inr (.inl ⟨bytes, rfl, hno, hframe⟩))
  | byteReceived b =>
    cases hmode : s.link.mode with
    | hunt => simp [hmode] at h
    | frame taken =>
      rw [hmode] at h
      have hframe : (if rest.head? = some .linkBreak then none else goodFrame (taken ++ [b])) = some r := h
      split at hframe
      · cases hframe
      · next hno => exact .inr (.inr (.inr ⟨b, taken, rfl, rfl, hno, hframe⟩))
  | _ => simp at h

/-- What a live part with a high line does with a command that arrives on it. -/
theorem State.live_hear {s : State} (hlive : s.pins.nrst = true) (hrxd : s.pins.rxd = true) (work : State → State) :
    (if s.pins.nrst then s.hear work else s) = work s.seeHigh := by
  rw [if_pos hlive, State.hear_of_high hrxd]

/-- The next command, if the request it brings is a cancel of a READY slot, makes the dispatch. -/
theorem State.settled_effect_of_arriving {s : State} {c : Instr} {rest : List Instr} {r : Request}
    (hpending : s.pending = c :: rest) (hlive : s.pins.nrst = true) (hreq : s.link.requests = []) (hmay : s.mayTake = true)
    (hrxd : s.pins.rxd = true) (hr : s.arrivingNext = some r) (hcancel : s.cancelsReady r = true) :
    (effect c (s.withRest rest)).Settled := by
  have hhear (work : State → State) := State.live_hear (s := s.withRest rest) hlive hrxd work
  have hbreak (hno : rest.head? ≠ some .linkBreak) : (s.withRest rest).seeHigh.breakNext = false := by
    have hhead : (rest.head? == some .linkBreak) = false := by simpa using hno
    show (_ && _ && (rest.head? == some .linkBreak)) = false
    rw [hhead, Bool.and_false]
  rcases State.arrivingNext_cases hpending hr with ⟨tag, p, rfl, rfl⟩ | ⟨tag, kind, p, rfl, rfl⟩ | ⟨bytes, rfl, hno, hgood⟩ |
    ⟨b, taken, rfl, hmode, hno, hgood⟩
  · have heffect : effect (.cancelAcq tag p) (s.withRest rest) = (s.withRest rest).seeHigh.enqueue
        { tag, kind := RequestKind.cancelAcq.code, payload := p } := hhear (fun u => u.enqueue _)
    rw [heffect]
    exact State.settled_enqueue_of_cancelsReady (s := (s.withRest rest).seeHigh) hreq hmay hcancel
  · have heffect : effect (.unknownKind tag kind p) (s.withRest rest) = (s.withRest rest).seeHigh.enqueue
        { tag, kind, payload := p } := hhear (fun u => u.enqueue _)
    rw [heffect]
    exact State.settled_enqueue_of_cancelsReady (s := (s.withRest rest).seeHigh) hreq hmay hcancel
  · have heffect : effect (.frameReceived bytes) (s.withRest rest) = (s.withRest rest).seeHigh.completeFrame bytes :=
      hhear (fun u => u.completeFrame bytes)
    rw [heffect]
    exact State.settled_completeFrame_of_cancelsReady (s := (s.withRest rest).seeHigh) hreq hmay hgood (hbreak hno) hcancel
  · have heffect : effect (.byteReceived b) (s.withRest rest) = (s.withRest rest).seeHigh.takeByte b :=
      hhear (fun u => u.takeByte b)
    rw [heffect, State.takeByte_of_goodFrame (s := (s.withRest rest).seeHigh) hmode hgood]
    exact State.settled_completeFrame_of_cancelsReady (s := (s.withRest rest).seeHigh) hreq hmay hgood (hbreak hno) hcancel

/-- The end of a frame, if it makes room for a waiting cancel of a READY slot, makes the dispatch. -/
theorem State.settled_effect_of_room {s : State} {c : Instr} {rest : List Instr} {r : Request} {rs : List Request}
    (hpending : s.pending = c :: rest) (hlive : s.pins.nrst = true) (hreq : s.link.requests = r :: rs)
    (hroom : s.roomNext = true) (hcancel : s.cancelsReady r = true) : (effect c (s.withRest rest)).Settled := by
  simp only [State.roomNext, hpending, List.head?_cons, Bool.and_eq_true, beq_iff_eq, Option.some.injEq] at hroom
  obtain ⟨⟨rfl, hsending⟩, hmay⟩ := hroom
  have hwait : s.link.restartWait = false := by
    simp only [State.mayTake, Bool.and_eq_true, Bool.not_eq_true'] at hmay
    exact hmay.2
  have hends : (s.withRest rest).restartReplyEnds = false := by
    show (s.link.restartWait && _) = false
    rw [hwait, Bool.false_and]
  have hlive' : (s.withRest rest).pins.nrst = true := hlive
  have hnot : (s.withRest rest).resets .frameTransmitted = false := by
    show (_ && (s.withRest rest).restartReplyEnds) = false
    rw [hends, Bool.and_false]
  obtain ⟨f, hf⟩ := Option.isSome_iff_exists.mp hsending
  have hf' : (s.withRest rest).out.sending = some f := hf
  have heffect : effect .frameTransmitted (s.withRest rest) = (s.withRest rest).freeTransmitter.takeAll := by
    simp only [effect, exec, execFrameTransmitted, State.live, hlive', if_true, State.frameEnds, hf', hends,
      Bool.false_eq_true, if_false, State.transmitterFree]
  rw [heffect]
  exact State.settled_takeAll_of_cancelsReady (s := (s.withRest rest).freeTransmitter) hreq hmay hcancel

/-- The next command, if it takes a cancel of a READY slot, makes the dispatch. -/
theorem State.settled_effect_of_cancelNext {s : State} {c : Instr} {rest : List Instr} (hpending : s.pending = c :: rest)
    (h : s.cancelNext = true) : (effect c (s.withRest rest)).Settled := by
  simp only [State.cancelNext, Bool.and_eq_true, Option.any_eq_true_iff_get] at h
  obtain ⟨hlive, hsome, hcancel⟩ := h
  obtain ⟨r, hr⟩ := Option.isSome_iff_exists.mp hsome
  have hcancels : s.cancelsReady r = true := by simpa [hr] using hcancel
  unfold State.takenNext at hr
  split at hr
  · next hreq =>
    split at hr
    · next hmay =>
      simp only [Bool.and_eq_true] at hmay
      exact State.settled_effect_of_arriving hpending hlive hreq hmay.1 hmay.2 hr hcancels
    · cases hr
  · next r' rs hreq =>
    split at hr
    · next hroom =>
      obtain rfl : r' = r := by simpa using hr
      exact State.settled_effect_of_room hpending hlive hreq hroom hcancels
    · cases hr

/-- Settles O6: a chain of dispatches leaves none to make; what it does not do at the moment of a cancel, the cancel
does. -/
theorem dispatchLawKept : Obligations.DispatchLawKept := by
  intro s t h hs
  rw [State.dispatchLaw_iff] at hs ⊢
  obtain ⟨hpending, rfl⟩ | ⟨c, rest, hpending, rfl⟩ := step_cases h
  · have hsettled : s.tick.Settled := by
      unfold State.tick
      split
      · intro hidle l
        refine hs.settled hpending ?_ l
        simpa [State.putDue, State.advanceTime] using hidle
      · exact (hs.settled hpending).of_eq rfl rfl
    exact hsettled.dispatched
  by_cases hc : (s.withRest rest).resets c = true
  · refine State.Settled.dispatched (State.Settled.of_eq (s := State.reset) ?_ (effect_of_resets hc).conv
      (effect_of_resets hc).ready)
    intro _ l
    revert l
    decide
  rw [Bool.not_eq_true] at hc
  rcases hs with hsettled | hcancel
  · exact State.Settled.effect (s := s.withRest rest) (hsettled.of_eq rfl rfl) hc
  · exact (State.settled_effect_of_cancelNext hpending hcancel).dispatched

end Sys2Proof.Machine
end

section
/-! The values of reset (R24 to R180), and what the three resets leave (R168). -/

namespace Sys2Proof.Machine

/-- Settles O3: the tables of reset read place by place, and its laws are decided. -/
theorem resetLeavesSpecValues : Obligations.ResetLeavesSpecValues := by
  refine ⟨⟨?slots, ?anchors, ?cadences, ?levels, rfl, ?rings, ?chans, rfl, rfl, ?profiles, rfl, ?sources, rfl, ?counters,
    ?decoders, rfl, rfl, rfl⟩, ?laws⟩
  case slots => intro x; simp [State.slot, State.reset, Slot.free, Definition.absent]
  case anchors => decide
  case cadences => decide
  case levels => decide
  case rings => decide
  case chans => decide
  case profiles => decide
  case sources => decide
  case counters => decide
  case decoders => decide
  case laws =>
    exact ⟨by decide, by decide, by decide, by decide, by decide, by decide, by decide, by decide, by decide, by decide,
      by decide, by decide, by decide, trivial⟩

/-! ## Resets (R168) -/

theorem State.frameEnds_of_restart {s : State} (h : s.restartReplyEnds = true) : s.frameEnds = s.restartReset := by
  unfold State.frameEnds
  split
  · next hnone => simp [State.restartReplyEnds, hnone] at h
  · rw [if_pos h]

/-- The levels of the pins that a part held in reset shows after a command (R168). -/
def State.heldPins (s : State) : Instr → Pins
  | .guardPinAssert g => { s.pins with gin := Table.put s.pins.gin g (s.source (pinSource g)).activeHigh }
  | .guardPinDeassert g => { s.pins with gin := Table.put s.pins.gin g (!(s.source (pinSource g)).activeHigh) }
  | .quadratureStep d a b => { s.pins with enc := Table.put s.pins.enc d { a, b } }
  | .linkBreak => { s.pins with rxd := false }
  | .rxdReturnsHigh => { s.pins with rxd := true }
  | _ => s.pins

/-- A part held in reset takes no command but the three that reset it; the levels of its pins it shows as they come
(R168). -/
theorem exec_of_heldInReset {s : State} (h : s.pins.nrst = false) {c : Instr} (hpower : c ≠ .powerOn)
    (hassert : c ≠ .nrstAssert) (hrelease : c ≠ .nrstRelease) : exec c s = .next { s with pins := s.heldPins c } := by
  have held {u t v : State} (hv : v = t) : (.next (if s.pins.nrst then u else v) : Answered) = .next t := by
    rw [h, hv]; rfl
  cases c with
  | powerOn => exact absurd rfl hpower
  | nrstAssert => exact absurd rfl hassert
  | nrstRelease => exact absurd rfl hrelease
  | _ => exact held rfl

/-- Settles O4: each reset is the one reset of the blocks, and a part that NRST holds does nothing else. -/
theorem resetsReturnResetValues : Obligations.ResetsReturnResetValues := by
  intro s
  refine ⟨rfl, fun hhigh => ?assertHigh, fun hlow => ?releaseLow, fun hlow => ?assertLow, fun hhigh => ?releaseHigh,
    fun hlive hends => ⟨?frame, ?restart⟩, fun hends => ?other, fun hlow c hpower hassert hrelease => ?held⟩
  case assertHigh =>
    have hassert : s.assertNrst = (s.setNrst false).resetBy .pin s.clock.rampTicks := if_pos hhigh
    show Host.Outcome.next s.assertNrst = _
    rw [hassert]
    rfl
  case releaseLow =>
    have hrelease : s.releaseNrst = (s.setNrst true).resetBy .pin s.clock.rampTicks := if_neg (by simp [hlow])
    show Host.Outcome.next s.releaseNrst = _
    rw [hrelease]
    rfl
  case assertLow => exact congrArg _ (if_neg (by simp [hlow]))
  case releaseHigh => exact congrArg _ (if_pos hhigh)
  case frame =>
    have hreset : (if s.pins.nrst then s.frameEnds else s) = s.restartReset := by
      rw [if_pos hlive, State.frameEnds_of_restart hends]
    show Host.Outcome.next (if s.pins.nrst then s.frameEnds else s) = _
    rw [hreset]
    exact congrArg _ (by rw [← hlive]; rfl)
  case restart =>
    have hreset : (if s.pins.nrst then (if s.restartReplyEnds then s.restartReset else s) else s) = s.restartReset := by
      rw [if_pos hlive, if_pos hends]
    show Host.Outcome.next (if s.pins.nrst then (if s.restartReplyEnds then s.restartReset else s) else s) = _
    rw [hreset]
    exact congrArg _ (by rw [← hlive]; rfl)
  case other =>
    show Host.Outcome.next (if s.pins.nrst then (if s.restartReplyEnds then s.restartReset else s) else s) = _
    simp [hends]
  case held =>
    rw [exec_of_heldInReset hlow hpower hassert hrelease]
    cases c <;> rfl

end Sys2Proof.Machine
end

section
/-! One tick of the timebase (R26, R48, R86, R106, R163): the counters of time, and the commands that fall due. -/

namespace Sys2Proof.Machine

/-! ## The commands that fall due -/

/-- What makes a command fall due at a tick, in the state whose counters of time have moved on. -/
def State.FallsDue (s : State) (micro ramp : Bool) : Instr → Prop
  | .rampTick => ramp = true
  | .periodBoundary c => (s.chan c).state ≠ .off ∧ (s.chan c).period ≤ (s.chan c).phase
  | .periodMidpoint c => (s.chan c).state ≠ .off ∧ (s.chan c).phase = (s.chan c).period / 2
  | .cadenceAnchorFire k => micro = true ∧ s.cadenceDue k = true
  | .waitLimitExpiry x => micro = true ∧ s.waitOver x = true
  | .qualificationExpiry p => micro = true ∧ (s.source (pinSource p)).state = .qualifying ∧
      s.qualificationOver (pinSource p) = true
  | .graceExpiry u => micro = true ∧ s.graceOver u = true
  | .stall u => micro = true ∧ s.quietOver u = true
  | .conversionComplete value => ∃ v, s.conv = some v ∧ Config.conversionTicks ≤ v.elapsed ∧
      value = Config.sampledCount v.channel s.drawn
  | .frameTransmitted => ∃ f, s.out.sending = some f ∧ f.lineTicks ≤ s.out.sentTicks
  | .rxdReturnsHigh => s.highSinceReset = true
  | _ => False

theorem State.mem_conversionDue (s : State) (i : Instr) :
    i ∈ s.conversionDue ↔ ∃ v, s.conv = some v ∧ Config.conversionTicks ≤ v.elapsed ∧
      i = .conversionComplete (Config.sampledCount v.channel s.drawn) := by
  unfold State.conversionDue
  split
  · next h => simp [h]
  · next v h => simp [h]

theorem State.mem_transmissionDue (s : State) (i : Instr) :
    i ∈ s.transmissionDue ↔ ∃ f, s.out.sending = some f ∧ f.lineTicks ≤ s.out.sentTicks ∧ i = .frameTransmitted := by
  unfold State.transmissionDue
  split
  · next h => simp [h]
  · next f h => simp [h]

theorem mem_allUnits (u : UnitId) : u ∈ allUnits := by
  revert u
  decide

theorem mem_fourCadences (k : Fin 4) : k ∈ ([0, 1, 2, 3] : List (Fin 4)) := by
  revert k
  decide

/-- A command is among those that fall due exactly if its moment is here. -/
theorem State.mem_dueNow (s : State) (micro ramp : Bool) (i : Instr) :
    i ∈ s.dueNow micro ramp ↔ s.FallsDue micro ramp i := by
  have hstamp : i ∈ (if micro then s.stampDue else []) ↔ micro = true ∧ i ∈ s.stampDue := by
    cases micro <;> simp
  simp only [State.dueNow, List.mem_append, hstamp, State.mem_conversionDue, State.mem_transmissionDue, mem_dueIf]
  simp only [State.stampDue, State.pulseDue, List.mem_append, List.mem_flatMap, mem_dueIf]
  cases i <;>
    simp [State.FallsDue, mem_allChans, mem_allUnits, mem_fourCadences, -List.mem_cons]

/-! ## No command falls due twice -/

/-- A command without the free value it may carry. -/
def momentOf : Instr → Instr
  | .conversionComplete _ => .conversionComplete 0
  | i => i

/-- Every moment at which a timer is compared with the time stamp, once. -/
def stampMoments : List Instr :=
  ([0, 1, 2, 3] : List (Fin 4)).flatMap (fun k => [.cadenceAnchorFire k]) ++
    (List.finRange 32).flatMap (fun x => [.waitLimitExpiry x]) ++
    (List.finRange 8).flatMap (fun p => [.qualificationExpiry p]) ++
    allUnits.flatMap (fun u => [.graceExpiry u] ++ [.stall u])

/-- Every moment a tick can bring, once. -/
def allMoments : List Instr :=
  [.rampTick] ++ allChans.flatMap (fun c => [.periodBoundary c] ++ [.periodMidpoint c]) ++ stampMoments ++
    [.conversionComplete 0] ++ [.frameTransmitted] ++ [.rxdReturnsHigh]

theorem map_dueIf_sublist (due : Bool) (c : Instr) : ((dueIf due c).map momentOf).Sublist [momentOf c] := by
  cases due <;> simp [dueIf]

theorem map_flatMap_sublist {α : Type} (l : List α) {f g : α → List Instr}
    (h : ∀ a, ((f a).map momentOf).Sublist (g a)) : ((l.flatMap f).map momentOf).Sublist (l.flatMap g) := by
  rw [List.map_flatMap]
  exact List.Sublist.flatMap_right l fun a _ => h a

theorem map_append_sublist {l m l' m' : List Instr} (hl : (l.map momentOf).Sublist l')
    (hm : (m.map momentOf).Sublist m') : ((l ++ m).map momentOf).Sublist (l' ++ m') := by
  rw [List.map_append]
  exact hl.append hm

theorem State.map_conversionDue_sublist (s : State) :
    (s.conversionDue.map momentOf).Sublist [.conversionComplete 0] := by
  unfold State.conversionDue
  split
  · exact List.nil_sublist _
  · exact map_dueIf_sublist _ _

theorem State.map_transmissionDue_sublist (s : State) :
    (s.transmissionDue.map momentOf).Sublist [.frameTransmitted] := by
  unfold State.transmissionDue
  split
  · exact List.nil_sublist _
  · exact map_dueIf_sublist _ _

/-- What falls due at a tick are some of the moments, in their order. -/
theorem State.dueNow_sublist (s : State) (micro ramp : Bool) :
    ((s.dueNow micro ramp).map momentOf).Sublist allMoments := by
  have hpulse (c : ChanId) : ((s.pulseDue c).map momentOf).Sublist ([.periodBoundary c] ++ [.periodMidpoint c]) :=
    map_append_sublist (map_dueIf_sublist _ _) (map_dueIf_sublist _ _)
  have hstamp : (s.stampDue.map momentOf).Sublist stampMoments :=
    map_append_sublist
      (map_append_sublist
        (map_append_sublist (map_flatMap_sublist _ fun _ => map_dueIf_sublist _ _)
          (map_flatMap_sublist _ fun _ => map_dueIf_sublist _ _))
        (map_flatMap_sublist _ fun _ => map_dueIf_sublist _ _))
      (map_flatMap_sublist _ fun _ => map_append_sublist (map_dueIf_sublist _ _) (map_dueIf_sublist _ _))
  have hmicro : ((if micro then s.stampDue else []).map momentOf).Sublist stampMoments := by
    cases micro
    · exact List.nil_sublist _
    · exact hstamp
  exact map_append_sublist
    (map_append_sublist
      (map_append_sublist
        (map_append_sublist
          (map_append_sublist (map_dueIf_sublist _ _) (map_flatMap_sublist _ hpulse)) hmicro)
        s.map_conversionDue_sublist)
      s.map_transmissionDue_sublist)
    (map_dueIf_sublist _ _)

theorem State.dueNow_nodup (s : State) (micro ramp : Bool) : (s.dueNow micro ramp).Nodup := by
  have hmoments : allMoments.Nodup := by decide +kernel
  exact List.Nodup.of_map momentOf (hmoments.sublist (s.dueNow_sublist micro ramp))

end Sys2Proof.Machine
end

section
/-! The tick, field by field (R26, R48, R86, R106, R130, R163, R179). -/

namespace Sys2Proof.Machine

/-! ## Timers compared with the time stamp -/

theorem State.cadenceDue_iff (s : State) (k : Fin 4) :
    s.cadenceDue k = true ↔ (s.cadences.get k).period ≠ 0 ∧ ((s.cadences.get k).due - s.now).toInt ≤ 0 := by
  simp [State.cadenceDue, reached]

theorem State.waitOver_iff (s : State) (x : SlotId) :
    s.waitOver x = true ↔ (s.slot x).state = .ready ∧ (s.slot x).cursor = 0 ∧ (s.slot x).late = false ∧
      (s.slot x).defn.waitLimit ≠ 0 ∧
      ((s.slot x).readySince + BitVec.ofNat 32 (s.slot x).defn.waitLimit - s.now).toInt ≤ 0 := by
  simp [State.waitOver, Slot.waitRuns, reached, after, and_assoc]

theorem State.qualificationOver_iff (s : State) (n : SourceId) :
    s.qualificationOver n = true ↔
      ((s.source n).qualStart + BitVec.ofNat 32 ((s.source n).qualification * 1000) - s.now).toInt ≤ 0 := by
  simp [State.qualificationOver, reached, after, millis]

theorem State.graceOver_iff (s : State) (u : UnitId) :
    s.graceOver u = true ↔ (s.chan (chanOf u)).mag ≠ 0 ∧ (s.counter u).armed = false ∧ (s.counter u).lockout = false ∧
      ((s.counter u).graceStart + BitVec.ofNat 32 ((s.counter u).grace * 1000) - s.now).toInt ≤ 0 := by
  simp [State.graceOver, State.graceRuns, State.watched, reached, after, millis, and_assoc]

theorem State.quietOver_iff (s : State) (u : UnitId) :
    s.quietOver u = true ↔ (s.counter u).armed = true ∧ (s.counter u).quiet ≠ 0 ∧
      ((s.counter u).quietStart + BitVec.ofNat 32 ((s.counter u).quiet * 1000) - s.now).toInt ≤ 0 := by
  simp [State.quietOver, reached, after, millis, and_assoc]

theorem State.highSinceReset_iff (s : State) :
    s.highSinceReset = true ↔ s.pins.rxd = true ∧ s.link.seenHigh = false ∧
      400 < s.clock.stamp.toNat * 20 + s.clock.subTicks := by
  rw [State.highSinceReset, Bool.and_eq_true, Bool.and_eq_true, decide_eq_true_iff, Bool.not_eq_true', and_assoc]
  exact Iff.rfl

/-! ## The counters of time -/

theorem Clock.microTick_iff {k : Clock} (h : k.subTicks < 20) : k.microTick = true ↔ k.subTicks = 19 := by
  rw [Clock.microTick, decide_eq_true_iff]
  show 20 ≤ _ + 1 ↔ _
  omega

theorem Clock.rampTick_iff {k : Clock} (h : k.rampTicks < 20000) : k.rampTick = true ↔ k.rampTicks = 19999 := by
  rw [Clock.rampTick, decide_eq_true_iff]
  show 20000 ≤ _ + 1 ↔ _
  omega

theorem Clock.tickRamp_eq {k : Clock} (h : k.rampTicks < 20000) :
    k.tickRamp = { k with rampTicks := (k.rampTicks + 1) % 20000 } := by
  have hticks : (if k.rampTick then 0 else k.rampTicks + 1) = (k.rampTicks + 1) % 20000 := by
    by_cases hlast : k.rampTicks = 19999
    · rw [if_pos ((Clock.rampTick_iff h).mpr hlast), hlast]
    · rw [if_neg (mt (Clock.rampTick_iff h).mp hlast)]; omega
  rw [Clock.tickRamp, hticks]

theorem Clock.tick_eq {k : Clock} (hsub : k.subTicks < 20) (hramp : k.rampTicks < 20000) :
    k.tick = { stamp := if k.subTicks = 19 then k.stamp + 1 else k.stamp
               subTicks := (k.subTicks + 1) % 20
               rampTicks := (k.rampTicks + 1) % 20000 } := by
  have hticks : (if k.microTick then 0 else k.subTicks + 1) = (k.subTicks + 1) % 20 := by
    by_cases hlast : k.subTicks = 19
    · rw [if_pos ((Clock.microTick_iff hsub).mpr hlast), hlast]
    · rw [if_neg (mt (Clock.microTick_iff hsub).mp hlast)]; omega
  rw [Clock.tick, hticks, Clock.tickRamp_eq hramp]
  simp only [Clock.microTick_iff hsub]

theorem Source.tick_eq (src : Source) (now : Stamp) :
    src.tick now = { src with heldLong := (src.heldLong ||
      decide (src.state = .tripped ∧ 65535000 ≤ (now - src.trippedSince).toNat)) } := by
  unfold Source.tick
  split
  · next h => rw [decide_eq_true h, Bool.or_true]
  · next h => rw [decide_eq_false h, Bool.or_false]

/-- Settles O2: the counters of time move on field by field, and what falls due is what `State.mem_dueNow` says. -/
theorem idleStepIsOneTick : Obligations.IdleStepIsOneTick := by
  intro s hpending hsub hramp
  have hstep : step s = .next s.tick := by simp only [step, hpending]
  rw [hstep]
  refine ⟨fun hlive => ⟨s.tick, rfl, ?_⟩, fun hheld => ?_⟩
  · have htick : s.tick = s.advanceTime.putDue (s.advanceTime.dueNow s.clock.microTick s.clock.rampTick) := if_pos hlive
    have hduePending : s.tick.pending =
        freeOrder s.drawn (s.advanceTime.dueNow s.clock.microTick s.clock.rampTick) := by
      rw [State.tick_pending s hlive, hpending, List.nil_append]
    have hperm := freeOrder_perm s.drawn (s.advanceTime.dueNow s.clock.microTick s.clock.rampTick)
    refine ⟨?clock, ?chans, ?conv, ?sources, ?out, ?rest, ?drawn, ?nodup, ?due⟩
    case clock => rw [htick]; exact Clock.tick_eq hsub hramp
    case chans => intro c; rw [htick]; exact s.chan_advanceTime c
    case conv => rw [htick]; rfl
    case sources => intro n; rw [htick]; exact (s.source_advanceTime n).trans (Source.tick_eq _ _)
    case out => rw [htick]; rfl
    case rest => rw [htick]; rfl
    case drawn => rw [hduePending, hperm.length_eq, htick]; rfl
    case nodup => rw [hduePending, hperm.nodup_iff]; exact State.dueNow_nodup _ _ _
    case due =>
      have hmicro := Clock.microTick_iff hsub
      rw [hduePending, htick]
      intro reaches i
      rw [hperm.mem_iff, State.mem_dueNow]
      cases i with
      | rampTick => exact Clock.rampTick_iff hramp
      | cadenceAnchorFire k =>
        have hdue := s.advanceTime.cadenceDue_iff k
        rw [← BitVec.add_zero (s.advanceTime.cadences.get k).due] at hdue
        exact (and_congr hmicro hdue).trans and_left_comm
      | waitLimitExpiry x =>
        refine (and_congr hmicro (s.advanceTime.waitOver_iff x)).trans ?_
        exact ⟨fun ⟨ha, hst, hc, hl, hw, hr⟩ => ⟨hst, hc, hl, hw, ha, hr⟩, fun ⟨hst, hc, hl, hw, ha, hr⟩ =>
          ⟨ha, hst, hc, hl, hw, hr⟩⟩
      | qualificationExpiry p =>
        exact (and_congr hmicro (and_congr Iff.rfl (s.advanceTime.qualificationOver_iff _))).trans and_left_comm
      | graceExpiry u =>
        refine (and_congr hmicro (s.advanceTime.graceOver_iff u)).trans ?_
        exact ⟨fun ⟨ha, hm, hk, hl, hr⟩ => ⟨hm, hk, hl, ha, hr⟩, fun ⟨hm, hk, hl, ha, hr⟩ => ⟨ha, hm, hk, hl, hr⟩⟩
      | stall u =>
        refine (and_congr hmicro (s.advanceTime.quietOver_iff u)).trans ?_
        exact ⟨fun ⟨ha, hk, hq, hr⟩ => ⟨hk, hq, ha, hr⟩, fun ⟨hk, hq, ha, hr⟩ => ⟨ha, hk, hq, hr⟩⟩
      | rxdReturnsHigh => exact s.advanceTime.highSinceReset_iff
      | _ => exact Iff.rfl
  · have hticks : s.tick = { s with clock := s.clock.tickRamp } := if_neg (by simp [hheld])
    rw [hticks, Clock.tickRamp_eq hramp]

end Sys2Proof.Machine
end

section
/-! The outgoing side: the joins and the transmitter's choice, case by case (R160 to R163). -/

namespace Sys2Proof.Machine

theorem Outbox.choose_of_reply {o : Outbox} (h : o.sending = none) {r : Reply} {rs : List Reply} (hr : o.replies = r :: rs)
    (turn : o.events = [] ∨ o.lastServed = .event) : o.choose = o.sendReply r rs := by
  unfold Outbox.choose
  rcases turn with he | hl
  · simp [h, hr, he]
  · cases he : o.events <;> simp [h, hr, hl]

theorem Outbox.choose_of_event {o : Outbox} (h : o.sending = none) {e : EventRecord} {es : List EventRecord}
    (he : o.events = e :: es) (turn : o.replies = [] ∨ o.lastServed = .reply) : o.choose = o.sendEvent e es := by
  unfold Outbox.choose
  rcases turn with hr | hl
  · simp [h, he, hr]
  · cases hr : o.replies <;> simp [h, he, hl]

theorem Outbox.choose_of_empty {o : Outbox} (hr : o.replies = []) (he : o.events = []) : o.choose = o := by
  cases h : o.sending <;> simp [Outbox.choose, h, hr, he]

theorem EventRecord.absorbs_iff (w e : EventRecord) :
    w.absorbs e = true ↔ e.kind ≠ .ready ∧ w.kind = e.kind ∧ w.source = e.source := by
  simp [EventRecord.absorbs, and_assoc]

theorem placeEvent_of_absorbed {q : List EventRecord} {e : EventRecord} (h : ∃ w ∈ q, w.absorbs e = true) :
    placeEvent q e = q.map (fun w => if w.absorbs e then w.bump else w) := by
  have any : q.any (fun w => w.absorbs e) = true := by simpa using h
  simp [placeEvent, any]

theorem placeEvent_of_room {q : List EventRecord} {e : EventRecord} (h : ∀ w ∈ q, ¬ w.absorbs e = true)
    (room : q.length < 16) : placeEvent q e = q ++ [e] := by
  have any : ¬ q.any (fun w => w.absorbs e) = true := by simpa using h
  rw [placeEvent, if_neg any, if_pos room]

theorem placeEvent_of_full {q : List EventRecord} {e : EventRecord} (h : ∀ w ∈ q, ¬ w.absorbs e = true)
    (full : 16 ≤ q.length) : placeEvent q e = markNewest q := by
  have any : ¬ q.any (fun w => w.absorbs e) = true := by simpa using h
  rw [placeEvent, if_neg any, if_neg (by omega)]

theorem markNewest_append (front : List EventRecord) (newest : EventRecord) :
    markNewest (front ++ [newest]) = front ++ [{ newest with overflow := true }] := by
  induction front with
  | nil => rfl
  | cons w front ih =>
    cases front with
    | nil => rfl
    | cons v front => simp only [List.cons_append] at ih ⊢; rw [markNewest, ih]

end Sys2Proof.Machine
end

section
/-! The queues of the outgoing side (R160 to R163, R168). -/

namespace Sys2Proof.Machine

/-- With one event waiting for an idle transmitter, that event is sent first (R168, log 9). -/
theorem Outbox.choose_of_waitingEvent {o : Outbox} (h : o.sending = none) (hr : o.replies = []) {e : EventRecord}
    {es : List EventRecord} (he : o.events = e :: es) :
    o.choose = { replies := [], events := es, sending := some (.event e), sentTicks := 0, lastServed := .event } := by
  rw [Outbox.choose_of_event h he (Or.inl hr), Outbox.sendEvent, hr]

theorem Outbox.offer_idle {o : Outbox} (h : o.sending = none) (hr : o.replies = []) (he : o.events = [])
    (e : EventRecord) : o.offer e = { o with sending := some (.event e), sentTicks := 0, lastServed := .event } := by
  have placed : placeEvent o.events e = [e] := by rw [he]; rfl
  have chosen := Outbox.choose_of_waitingEvent (o := { o with events := [e] }) h hr rfl
  rw [Outbox.offer, Outbox.choose_of_empty hr he, placed, hr, he]
  exact chosen

/-- Settles O14: the transmitter's choice and the two joins, each by the branch that applies. -/
theorem repliesAndEventsAreQueued : Obligations.RepliesAndEventsAreQueued := by
  unfold Obligations.RepliesAndEventsAreQueued
  refine ⟨fun o => ⟨?_, Outbox.choose_of_empty, ?_, ?_⟩, ?_, ?_, ?_, ?_, fun q e => ⟨?_, fun apart => ⟨?_, ?_⟩⟩⟩
  · intro busy
    obtain ⟨f, hf⟩ := Option.isSome_iff_exists.1 busy
    exact Outbox.choose_busy hf
  · exact fun r rs h hr turn => Outbox.choose_of_reply h hr turn
  · exact fun e es h he turn => Outbox.choose_of_event h he turn
  · intro s r first rest h hr he
    have chosen := Outbox.choose_of_waitingEvent h hr he
    refine ⟨?_, fun kind source detail => ?_⟩
    · rw [State.pushReply, Outbox.pushReply, chosen, Outbox.choose_busy rfl]
      rfl
    · rw [State.post, Outbox.offer, chosen, Outbox.choose_busy rfl]
  · intro s r busy
    obtain ⟨f, hf⟩ := Option.isSome_iff_exists.1 busy
    rw [State.pushReply, Outbox.pushReply_busy hf]
  · intro s r h hr he
    rw [State.pushReply, Outbox.pushReply_idle h hr he]
  · intro s kind source detail e
    refine ⟨fun busy => ?_, fun h hr he => ?_⟩
    · obtain ⟨f, hf⟩ := Option.isSome_iff_exists.1 busy
      rw [State.post, Outbox.offer_busy hf]
    · rw [State.post, Outbox.offer_idle h hr he]
  · intro absorbed
    simp only [← EventRecord.absorbs_iff] at absorbed ⊢
    exact placeEvent_of_absorbed absorbed
  · intro room
    simp only [← EventRecord.absorbs_iff] at apart
    exact placeEvent_of_room apart room
  · intro front newest hq full
    simp only [← EventRecord.absorbs_iff] at apart
    rw [placeEvent_of_full apart full, hq, markNewest_append]

end Sys2Proof.Machine
end

section
/-! Request rows: what a frame that arrives leads to, for any kind, and the requests of the link controller
(R156 to R159, R166 to R168). -/

namespace Sys2Proof.Machine

/-! ## Taking -/

theorem State.takeAll_of_waiting {s : State} (h : s.mayTake = false) : s.takeAll = s := by
  unfold State.takeAll
  cases hq : s.link.requests with
  | nil => rfl
  | cons r rest => rw [List.length_cons, State.takeChain]; simp [hq, h]

theorem State.mayTake_eq_false_iff (s : State) :
    s.mayTake = false ↔ 4 ≤ s.out.replies.length ∨ s.link.restartWait = true := by
  simp only [State.mayTake, Bool.and_eq_false_iff, decide_eq_false_iff_not, Bool.not_eq_false', not_lt]

theorem State.join_of_dropped {s : State} {r : Request} (h : r.tag = 0 ∨ 248 < r.payload.length ∨ 4 ≤ s.link.requests.length)
    (taking : State → State) : s.join r taking = s.setLinkError := if_pos h

theorem State.join_of_room {s : State} {r : Request} (ht : r.tag ≠ 0) (hp : r.payload.length ≤ 248)
    (hq : s.link.requests.length < 4) (taking : State → State) :
    s.join r taking = taking (s.setRequests (s.link.requests ++ [r])) :=
  if_neg (by rintro (h | h | h); exacts [ht h, by omega, by omega])

/-! ## The rows -/

/-- A request row, or UNKNOWN-KIND, is the arrival of its frame. -/
theorem exec_requestRow {tag kind : Byte} {p : List Byte} {c : Instr}
    (h : c = .unknownKind tag kind p ∨ ∃ k : RequestKind, k.code = kind ∧ c = k.row tag p) (s : State) :
    exec c s = s.live (fun s => s.arrive { tag, kind, payload := p }) := by
  rcases h with rfl | ⟨k, rfl, rfl⟩
  · rfl
  · cases k <;> rfl

/-- A row that is taken at once leads to the block's effect and the reply that carries its result, the epoch after it and
its fields. -/
theorem exec_row_reply {s : State} (h : s.takesAtOnce) (k : RequestKind) {tag : Byte} (ht : tag ≠ 0) {p : List Byte}
    (hp : p.length = k.payloadLength) {a : Answer} (ha : k.take p s.seeHigh = a) :
    exec (k.row tag p) s = .next (a.state.pushReply
      { tag := tag, kind := k.code + 0x80, payload := a.result.code :: a.state.epoch :: a.fields }) := by
  rw [exec_row_answered h k ht hp, ha]

/-- A refusal changes nothing but the reply queue, and what the arrival shows. -/
theorem exec_row_refused {s : State} (h : s.takesAtOnce) (k : RequestKind) {tag : Byte} (ht : tag ≠ 0) {p : List Byte}
    (hp : p.length = k.payloadLength) {result : Result} {fields : List Byte}
    (ha : k.take p s.seeHigh = s.seeHigh.refuse result fields) :
    exec (k.row tag p) s = .next (s.seeHigh.pushReply
      { tag := tag, kind := k.code + 0x80, payload := result.code :: s.epoch :: fields }) :=
  exec_row_reply h k ht hp ha

theorem State.take_of_answer_refused {s : State} {r : Request} {result : Result} {fields : List Byte}
    (h : r.answer s = s.refuse result fields) :
    s.take r = s.pushReply { tag := r.tag, kind := r.kind + 0x80, payload := result.code :: s.epoch :: fields } := by
  rw [State.take, h]
  rfl

theorem RequestKind.ofCode_eq_none : ∀ kind : Byte, kind ∉ requestKinds → RequestKind.ofCode kind = none := by
  decide

theorem RequestKind.code_mem (k : RequestKind) : k.code ∈ requestKinds := by
  cases k <;> decide

/-! ## Units -/

theorem unitNumber_eq_none {n bound : Nat} (h : bound ≤ n) : unitNumber n bound = none := dif_neg (by omega)

theorem unitNumber_eq_some {n bound : Nat} (h : n < bound) : unitNumber n bound = some ⟨n, h⟩ := dif_pos h

theorem unitNumber_val {n bound : Nat} {u : Fin bound} (h : n = u.val) : unitNumber n bound = some u := by
  subst h
  exact unitNumber_eq_some u.isLt

theorem u8_lt (p : List Byte) (i : Nat) : u8 p i < 256 := (byteAt p i).isLt

end Sys2Proof.Machine
end

section
/-! The requests of the link controller, and requests that cannot be taken (R156 to R159, R166 to R168, R173). -/

namespace Sys2Proof.Machine

/-- Settles O15: the answer of the block, computed. -/
theorem pingReportsIdentityAndTime : Obligations.PingReportsIdentityAndTime := by
  unfold Obligations.PingReportsIdentityAndTime
  intro s tag h ht
  exact exec_row_reply h .ping ht rfl rfl

theorem outFlag_eq (b : Bool) : outFlag b = [if b then 1 else 0] := by cases b <;> rfl

theorem Channel.flagByte_eq (c : Channel) : c.flagByte =
    BitVec.ofNat 8 ((if c.limCurrent then 1 else 0) + (if c.limCap then 2 else 0) + (if c.fbMissed then 4 else 0)) := rfl

theorem State.counterFlagByte_eq (s : State) : s.counterFlagByte =
    BitVec.ofNat 8 ((if (s.decoder 0).countError then 1 else 0) + (if (s.decoder 1).countError then 2 else 0)) := rfl

theorem State.linkFlagByte_eq (s : State) : s.linkFlagByte = if s.link.linkError then 1 else 0 := by
  unfold State.linkFlagByte bitOf
  split <;> rfl

theorem State.statusReport_eq (s : State) : s.statusReport =
    [if s.conv.isSome then 1 else 0] ++ allLevels.map (fun l => BitVec.ofNat 8 (s.level l).length) ++
      allSources.map (fun n => BitVec.ofNat 8 (s.source n).state.code) ++ [BitVec.ofNat 8 s.activeProfile.val] ++
      allChans.flatMap (fun c => [BitVec.ofNat 8 (s.chan c).state.code, (s.chan c).flagByte]) ++
      [s.counterFlagByte, s.linkFlagByte] := by
  unfold State.statusReport
  rw [outFlag_eq]
  rfl

/-- Settles O16: the answer of the block, computed; the report by its fields. -/
theorem statusReportsThenClears : Obligations.StatusReportsThenClears := by
  unfold Obligations.StatusReportsThenClears
  intro s tag h ht
  have answered : RequestKind.status.take [] s.seeHigh =
      { state := s.seeHigh.clearReportedFlags, result := .ok, fields := s.seeHigh.statusReport } := rfl
  refine (exec_row_reply h .status ht rfl answered).trans ?_
  dsimp only
  rw [State.statusReport_eq, State.linkFlagByte_eq]
  rfl

/-- Settles O17: RESTART by its answer; the two checks before a block is reached by theirs. -/
theorem linkControllerAnswers : Obligations.LinkControllerAnswers := by
  unfold Obligations.LinkControllerAnswers
  refine ⟨fun s tag h ht => ⟨?_, ?_⟩, fun s tag p h ht hp => ⟨?_, ?_⟩⟩
  · exact exec_row_reply h .restart ht rfl rfl
  · intro t r rest wait _
    exact State.takeAll_of_waiting ((State.mayTake_eq_false_iff t).2 (Or.inr wait))
  · intro kind unknown
    have answered : Request.answer { tag, kind, payload := p } s.seeHigh = s.seeHigh.refuse .unknownKind [] := by
      rw [Request.answer, RequestKind.ofCode_eq_none kind unknown]
    rw [exec_requestRow (Or.inl rfl), State.live_of_nrst h.1, State.arrive_takesAtOnce h ht hp,
      State.take_of_answer_refused answered]
    rfl
  · intro k wrong
    have answered : Request.answer { tag, kind := k.code, payload := p } s.seeHigh = s.seeHigh.refuse .badLength [] := by
      simp only [Request.answer, RequestKind.ofCode_code, if_neg wrong]
    rw [exec_row_taken h k ht hp, State.take_of_answer_refused answered]
    rfl

/-- Settles O18: by what stands between the frame and the queue: NRST, the line, the tag, the room, the conditions. -/
theorem requestsWaitForRoom : Obligations.RequestsWaitForRoom := by
  unfold Obligations.RequestsWaitForRoom
  intro s tag kind p c hp row
  rw [exec_requestRow row]
  refine ⟨?_, ?_, ?_⟩
  · rintro (held | low)
    · exact State.live_of_reset held _
    · have deaf : s.arrive { tag, kind, payload := p } = s := State.hear_of_low low _
      simp only [State.live, deaf, ite_self]
  · intro hn hx dropped
    rw [State.live_of_nrst hn, State.arrive, State.hear_of_high hx, State.enqueue, State.join_of_dropped]
    · rfl
    · exact dropped.imp_right Or.inr
  · intro hn hx ht room wait
    have waits : (s.seeHigh.setRequests (s.link.requests ++ [{ tag, kind, payload := p }])).mayTake = false :=
      (State.mayTake_eq_false_iff _).2 wait
    rw [State.live_of_nrst hn, State.arrive, State.hear_of_high hx, State.enqueue,
      State.join_of_room (s := s.seeHigh) ht hp room]
    exact congrArg (fun t => (.next t : Answered)) (State.takeAll_of_waiting waits)

end Sys2Proof.Machine
end

section
/-! Units that do not exist, and the receiver (R155 to R157, R164, R169, R175 to R179). -/

namespace Sys2Proof.Machine

/-! ## NO-SUCH -/

theorem RequestKind.take_noSuch {k : RequestKind} {units : Nat}
    (hk : (k, units) ∈ ([(.setChannel, 4), (.snapshot, 4), (.defineAcq, 32), (.armAcq, 32), (.cancelAcq, 32),
        (.releaseAcq, 32), (.setAnchor, 12), (.setRing, 8), (.readRing, 8), (.setGuard, 12), (.clearTrip, 12),
        (.setCounter, 3)] : List (RequestKind × Nat)))
    {p : List Byte} (hu : units ≤ u8 p 0) (s : State) : k.take p s = s.refuse .noSuch [byteAt p 0] := by
  have absent : unitNumber (u8 p 0) units = none := unitNumber_eq_none hu
  simp only [List.mem_cons, Prod.mk.injEq, List.not_mem_nil, or_false] at hk
  rcases hk with ⟨rfl, rfl⟩ | ⟨rfl, rfl⟩ | ⟨rfl, rfl⟩ | ⟨rfl, rfl⟩ | ⟨rfl, rfl⟩ | ⟨rfl, rfl⟩ | ⟨rfl, rfl⟩ | ⟨rfl, rfl⟩ |
    ⟨rfl, rfl⟩ | ⟨rfl, rfl⟩ | ⟨rfl, rfl⟩ | ⟨rfl, rfl⟩
  all_goals
    simp [RequestKind.take, takeSetChannel, takeSnapshot, takeDefineAcq, takeArmAcq, takeCancelAcq, takeReleaseAcq,
      takeSetAnchor, takeSetRing, takeReadRing, takeSetGuard, takeClearTrip, takeSetCounter, absent]

theorem takeSetProfile_noSuch {p : List Byte} (h : 4 ≤ u8 p 0 ∨ 4 ≤ u8 p 1) (s : State) :
    takeSetProfile p s = s.refuse .noSuch [byteAt p 0, byteAt p 1] := by
  unfold takeSetProfile
  rcases h with h | h
  · simp [unitNumber_eq_none h]
  · cases unitNumber (u8 p 0) 4 <;> simp [unitNumber_eq_none h]

theorem takeSelectProfile_noSuch {p : List Byte} (h : 4 ≤ u8 p 0) (s : State) :
    takeSelectProfile p s = s.refuse .noSuch (out8 s.activeProfile.val) := by
  simp [takeSelectProfile, unitNumber_eq_none h]

/-- Settles O19: each block's first check, and the reply to a refusal. -/
theorem noSuchUnitIsRefused : Obligations.NoSuchUnitIsRefused := by
  unfold Obligations.NoSuchUnitIsRefused
  intro s tag p h ht
  refine ⟨fun k units hk hp hu => ?_, fun hp hu => ?_, fun hp hu => ?_⟩
  · exact exec_row_refused h k ht hp (RequestKind.take_noSuch hk hu _)
  · exact exec_row_refused h .setProfile ht hp (takeSetProfile_noSuch hu _)
  · exact exec_row_refused h .selectProfile ht hp (takeSelectProfile_noSuch hu _)

/-! ## A whole frame -/

theorem lengthFits_iff (len : Byte) : lengthFits len = true ↔ 2 ≤ len.toNat ∧ len.toNat ≤ 250 := by
  simp [lengthFits]

theorem goodFrame_cons (len tag kind check : Byte) (p : List Byte) (hp : p.length ≤ 248) :
    goodFrame (len :: tag :: kind :: (p ++ [check])) =
      if len.toNat = p.length + 2 ∧ p.foldl (· + ·) (len + tag + kind) + check = 0
      then some { tag := tag, kind := kind, payload := p } else none := by
  have sum : frameSum (len :: tag :: kind :: (p ++ [check])) = p.foldl (· + ·) (len + tag + kind) + check := by
    simp [frameSum, List.foldl_append]
  by_cases count : len.toNat = p.length + 2
  · have fits : lengthFits len = true := (lengthFits_iff len).2 (by omega)
    simp [goodFrame, fits, sum, count]
  · have miscounted : p.length + 2 ≠ len.toNat := by omega
    simp [goodFrame, count, miscounted]

theorem goodFrame_payload {bytes : List Byte} {r : Request} (h : goodFrame bytes = some r) : r.payload.length ≤ 248 := by
  unfold goodFrame at h
  split at h
  · next len tag kind rest =>
    split at h
    · next fits =>
      simp only [Bool.and_eq_true, lengthFits_iff] at fits
      obtain ⟨⟨⟨-, most⟩, -⟩, -⟩ := fits
      cases h
      simp only [List.length_take]
      omega
    · cases h
  · cases h

theorem State.completeFrame_of_bad {s : State} {bytes : List Byte} (h : goodFrame bytes = none) :
    s.completeFrame bytes = s.dropFrame := by
  simp [State.completeFrame, h]

theorem State.completeFrame_of_break {s : State} {bytes : List Byte} {r : Request} (h : goodFrame bytes = some r)
    (hb : s.breakNext = true) : s.completeFrame bytes = (s.setReceiver .hunt).join r id := by
  simp [State.completeFrame, h, hb]

theorem State.completeFrame_of_good {s : State} {bytes : List Byte} {r : Request} (h : goodFrame bytes = some r)
    (hb : s.breakNext = false) : s.completeFrame bytes = (s.setReceiver .hunt).enqueue r := by
  simp [State.completeFrame, h, hb]

theorem State.breakNext_seeHigh {s : State} (hn : s.pins.nrst = true) :
    s.seeHigh.breakNext = true ↔ s.pending.head? = some .linkBreak := by
  simp [State.breakNext, State.seeHigh, hn]

/-! ## A byte -/

theorem State.frameByte_of_unfit {s : State} {len : Byte} {rest : List Byte} (h : ¬ (2 ≤ len.toNat ∧ len.toNat ≤ 250)) :
    s.frameByte (len :: rest) = s.dropFrame := by
  have unfit : lengthFits len = false := by rw [← Bool.not_eq_true, lengthFits_iff]; exact h
  simp [State.frameByte, unfit]

theorem State.frameByte_of_short {s : State} {len : Byte} {rest : List Byte} (h : 2 ≤ len.toNat ∧ len.toNat ≤ 250)
    (short : rest.length < len.toNat + 1) : s.frameByte (len :: rest) = s.setReceiver (.frame (len :: rest)) := by
  have fit : lengthFits len = true := (lengthFits_iff len).2 h
  have more : rest.length ≠ len.toNat + 1 := by omega
  simp [State.frameByte, fit, more]

theorem State.frameByte_of_whole {s : State} {len : Byte} {rest : List Byte} (h : 2 ≤ len.toNat ∧ len.toNat ≤ 250)
    (whole : rest.length = len.toNat + 1) : s.frameByte (len :: rest) = s.completeFrame (len :: rest) := by
  have fit : lengthFits len = true := (lengthFits_iff len).2 h
  simp [State.frameByte, fit, whole]

theorem State.takeByte_of_hunt {s : State} (h : s.link.mode = .hunt) (b : Byte) :
    s.takeByte b = if b = 0xA5 then s.setReceiver (.frame []) else s := by
  simp only [State.takeByte, h]
  rfl

theorem State.takeByte_of_frame {s : State} {taken : List Byte} (h : s.link.mode = .frame taken) (b : Byte) :
    s.takeByte b = s.frameByte (taken ++ [b]) := by
  simp [State.takeByte, h]

/-! ## The rows of the receive line -/

theorem exec_frameReceived {s : State} (hn : s.pins.nrst = true) (hx : s.pins.rxd = true) (bytes : List Byte) :
    exec (.frameReceived bytes) s = .next (s.seeHigh.completeFrame bytes) := by
  have row : exec (.frameReceived bytes) s = s.live (fun s => s.hear (fun s => s.completeFrame bytes)) := rfl
  rw [row, State.live_of_nrst hn, State.hear_of_high hx]

theorem exec_byteReceived {s : State} (hn : s.pins.nrst = true) (hx : s.pins.rxd = true) (b : Byte) :
    exec (.byteReceived b) s = .next (s.seeHigh.takeByte b) := by
  have row : exec (.byteReceived b) s = s.live (fun s => s.hear (fun s => s.takeByte b)) := rfl
  rw [row, State.live_of_nrst hn, State.hear_of_high hx]

theorem exec_framingError {s : State} (hn : s.pins.nrst = true) (hx : s.pins.rxd = true) :
    exec .framingError s = .next s.seeHigh.dropFrame := by
  have row : exec .framingError s = s.live (fun s => s.hear State.dropFrame) := rfl
  rw [row, State.live_of_nrst hn, State.hear_of_high hx]

theorem State.live_hear_of_low {s : State} (hx : s.pins.rxd = false) (work : State → State) :
    s.live (fun s => s.hear work) = .next s := by
  simp [State.live, State.hear_of_low hx]

end Sys2Proof.Machine
end

section
/-! The receiver byte by byte (R155 to R157). -/

namespace Sys2Proof.Machine

/-- A good frame whose request is not lost to a break of the same moment is the arrival of that request. -/
theorem exec_frameReceived_good {s : State} (hn : s.pins.nrst = true) (hx : s.pins.rxd = true) {bytes : List Byte}
    {r : Request} (h : goodFrame bytes = some r) (hb : s.pending.head? ≠ some .linkBreak) {c : Instr}
    (row : c = .unknownKind r.tag r.kind r.payload ∨ ∃ k : RequestKind, k.code = r.kind ∧ c = k.row r.tag r.payload) :
    exec (.frameReceived bytes) s = exec c { s with link := { s.link with mode := .hunt } } := by
  have quiet : s.seeHigh.breakNext = false := by
    rw [← Bool.not_eq_true, State.breakNext_seeHigh hn]
    exact hb
  rw [exec_frameReceived hn hx, State.completeFrame_of_good h quiet, exec_requestRow row,
    State.live_of_nrst (by exact hn), State.arrive, State.hear_of_high (by exact hx)]
  rfl

/-- Settles O20: the check of a whole frame; a frame that arrives, by the check and by what stands behind it; the
receiver's two states, byte by byte; the low line; the gap. -/
theorem receiverBuildsAndChecksFrames : Obligations.ReceiverBuildsAndChecksFrames := by
  unfold Obligations.ReceiverBuildsAndChecksFrames
  refine ⟨⟨goodFrame_cons, fun s bytes hn hx => ⟨?_, ?_, ?_⟩⟩, ?_, ?_, ?_⟩
  · intro bad
    rw [exec_frameReceived hn hx, State.completeFrame_of_bad bad]
    rfl
  · intro r good hb
    have breaks := (State.breakNext_seeHigh hn).2 hb
    rw [exec_frameReceived hn hx, State.completeFrame_of_break good breaks]
    refine ⟨fun ht room => ?_, fun lost => ?_⟩
    · rw [State.join_of_room (s := s.seeHigh.setReceiver .hunt) ht (goodFrame_payload good) room]
      rfl
    · rw [State.join_of_dropped (s := s.seeHigh.setReceiver .hunt) (lost.imp_right Or.inr)]
      rfl
  · intro r good hb
    exact ⟨fun k hk => exec_frameReceived_good hn hx good hb (Or.inr ⟨k, hk, rfl⟩),
      fun _ => exec_frameReceived_good hn hx good hb (Or.inl rfl)⟩
  · intro s b bytes low
    exact ⟨State.live_hear_of_low low _, State.live_hear_of_low low _, State.live_hear_of_low low _⟩
  · intro s b hn hx inMode dropped
    have mode (m : RxMode) (h : s.link.mode = m) : s.seeHigh.link.mode = m := h
    rw [exec_byteReceived hn hx]
    refine ⟨fun h hb => ?_, fun h hb => ?_, fun h fits => ?_, fun h unfit => ?_, fun len rest h low high => ⟨?_, ?_⟩, ?_⟩
    · rw [State.takeByte_of_hunt (mode _ h), if_neg hb]
    · rw [State.takeByte_of_hunt (mode _ h), if_pos hb]
      rfl
    · rw [State.takeByte_of_frame (mode _ h), List.nil_append, State.frameByte_of_short fits (by simp)]
      rfl
    · rw [State.takeByte_of_frame (mode _ h), List.nil_append, State.frameByte_of_unfit unfit]
      rfl
    · intro short
      rw [State.takeByte_of_frame (mode _ h), List.cons_append, State.frameByte_of_short ⟨low, high⟩ (by simpa using short)]
      rfl
    · intro whole
      rw [State.takeByte_of_frame (mode _ h), List.cons_append, State.frameByte_of_whole ⟨low, high⟩ (by simpa using whole),
        exec_frameReceived hn hx]
    · rw [exec_framingError hn hx]
      rfl
  · intro s hn
    have row : exec .interByteGapTimeout s = .next s.gapTimeout := State.live_of_nrst hn _
    rw [row]
    refine ⟨fun h => ?_, fun taken h => ?_⟩
    · simp [State.gapTimeout, h]
    · simp [State.gapTimeout, h, State.dropFrame, State.setReceiver, State.setLinkError]

end Sys2Proof.Machine
end

section
/-! The link break and the zeroing of the drive (R94, R99, R100, R164, R165). -/

namespace Sys2Proof.Machine

theorem State.chan_zeroDrive_self (s : State) (c : ChanId) :
    (s.zeroDrive c).chan c = { s.chan c with target := 0, ramped := 0, mag := 0, nextOn := 0 } := by
  rw [State.zeroDrive, State.chan_recompute_self, State.chan_setChan_self, State.formed_setChan]
  exact Channel.recomputed_of_ramped_zero _ _ _ rfl

theorem State.counter_zeroDrive_own (s : State) (k : UnitId) :
    (s.zeroDrive (chanOf k)).counter k = (s.counter k).atRest := by
  have own : unitOf (chanOf k) = some k := unitOf_eq_some_iff.2 rfl
  have mag : ((s.zeroDrive (chanOf k)).chan (chanOf k)).mag = 0 := by rw [State.chan_zeroDrive_self]
  rw [State.zeroDrive, State.chan_recompute_self] at mag
  rw [State.zeroDrive, State.counter_recompute, if_pos own, mag]
  rfl

theorem State.chan_onEnabled_zeroDrive (s : State) (c : ChanId) :
    (s.onEnabled State.zeroDrive).chan c = if (s.chan c).state = .off then s.chan c else
      { s.chan c with target := 0, ramped := 0, mag := 0, nextOn := 0 } := by
  rw [(State.onEnabled_agrees LocalWork.zeroDrive s c).chan]
  split
  · rfl
  · exact s.chan_zeroDrive_self c

theorem State.counter_onEnabled_zeroDrive (s : State) (k : UnitId) :
    (s.onEnabled State.zeroDrive).counter k =
      if (s.chan (chanOf k)).state = .off then s.counter k else (s.counter k).atRest := by
  rw [(State.onEnabled_agrees LocalWork.zeroDrive s (chanOf k)).counter k rfl]
  split
  · rfl
  · exact s.counter_zeroDrive_own k

theorem State.onEnabled_zeroDrive_eq (s : State) : s.onEnabled State.zeroDrive =
    { s with chans := (s.onEnabled State.zeroDrive).chans, counters := (s.onEnabled State.zeroDrive).counters } := by
  have frame := State.zeroEnabled_frame s
  generalize s.onEnabled State.zeroDrive = u at frame ⊢
  cases u
  simp_all

theorem State.breakLink_eq (s : State) : s.breakLink =
    { s with
      link := { s.link with mode := .hunt, requests := [] }
      chans := (s.discardInput.onEnabled State.zeroDrive).chans
      counters := (s.discardInput.onEnabled State.zeroDrive).counters
      epoch := s.epoch + 1
      out := s.out.offer { kind := .linkBreak, source := 0, count := 1, overflow := false, epoch := s.epoch + 1,
                           stamp := s.now, detail := BitVec.ofNat 16 s.link.requests.length } } := by
  rw [State.breakLink, State.onEnabled_zeroDrive_eq s.discardInput]
  generalize (s.discardInput.onEnabled State.zeroDrive).chans = chans
  generalize (s.discardInput.onEnabled State.zeroDrive).counters = counters
  rfl

theorem State.chan_lineLow (s : State) (c : ChanId) : s.lineLow.chan c = s.chan c := rfl

theorem State.counter_lineLow (s : State) (k : UnitId) : s.lineLow.counter k = s.counter k := rfl

theorem State.chan_breakLink (s : State) (c : ChanId) :
    s.breakLink.chan c = (s.discardInput.onEnabled State.zeroDrive).chan c := by
  have chans : s.breakLink.chans = (s.discardInput.onEnabled State.zeroDrive).chans := by rw [State.breakLink_eq]
  simp only [State.chan, chans]

theorem State.counter_breakLink (s : State) (k : UnitId) :
    s.breakLink.counter k = (s.discardInput.onEnabled State.zeroDrive).counter k := by
  have counters : s.breakLink.counters = (s.discardInput.onEnabled State.zeroDrive).counters := by
    rw [State.breakLink_eq]
  simp only [State.counter, counters]

/-- Settles O21: a break by what it discards, zeroes and posts; the other cases by NRST and by the high level seen. -/
theorem linkBreakStopsTheDrive : Obligations.LinkBreakStopsTheDrive := by
  unfold Obligations.LinkBreakStopsTheDrive
  intro s
  refine ⟨fun hn seen => ⟨s.breakLink.lineLow, ?_, ?_, fun c => ?_, fun k => ?_⟩, fun hn unseen => ?_, fun hn => ?_, fun held => ⟨?_, ?_⟩⟩
  · have row : exec .linkBreak s = .next (if s.pins.nrst then s.rxdLow20 else s.setRxd false) := rfl
    rw [row, if_pos hn, State.rxdLow20, if_pos seen]
  · have broken := s.breakLink_eq
    generalize s.breakLink = u at broken ⊢
    generalize (s.discardInput.onEnabled State.zeroDrive).chans = chans at broken
    generalize (s.discardInput.onEnabled State.zeroDrive).counters = counters at broken
    subst broken
    rfl
  · rw [State.chan_lineLow, State.chan_breakLink]
    exact (s.discardInput.chan_onEnabled_zeroDrive c)
  · rw [State.counter_lineLow, State.counter_breakLink]
    exact (s.discardInput.counter_onEnabled_zeroDrive k)
  · have row : exec .linkBreak s = .next (if s.pins.nrst then s.rxdLow20 else s.setRxd false) := rfl
    rw [row, if_pos hn, State.rxdLow20, if_neg (by simp [unseen]), State.lineLow, ← unseen]
  · have row : exec .rxdReturnsHigh s = .next (if s.pins.nrst then s.seeHigh else s.setRxd true) := rfl
    rw [row, if_pos hn]
    rfl
  · have row : exec .linkBreak s = .next (if s.pins.nrst then s.rxdLow20 else s.setRxd false) := rfl
    rw [row, if_neg (by simp [held])]
    rfl
  · have row : exec .rxdReturnsHigh s = .next (if s.pins.nrst then s.seeHigh else s.setRxd true) := rfl
    rw [row, if_neg (by simp [held])]
    rfl

/-! ## The end of a transmitted frame (R158, R163) -/

theorem State.takeAll_of_mayTake {s : State} {r : Request} {rest : List Request} (h : s.link.requests = r :: rest)
    (may : s.mayTake = true) : s.takeAll = State.takeAll (State.take (s.setRequests rest) r) := by
  have left : ((s.setRequests rest).take r).link.requests = rest := by rw [(State.take_frame _ r).2.2.1]; rfl
  rw [State.takeAll, h, List.length_cons, State.takeChain]
  simp only [h, may, if_true]
  rw [State.takeAll, left]

theorem exec_frameTransmitted {s : State} {f : TxFrame} (hn : s.pins.nrst = true) (hs : s.out.sending = some f)
    (plain : s.restartReplyEnds = false) : exec .frameTransmitted s = .next s.freeTransmitter.takeAll := by
  have row : exec .frameTransmitted s = .next s.frameEnds := State.live_of_nrst hn _
  rw [row, State.frameEnds]
  simp [hs, plain, State.transmitterFree]

/-- Settles O22: the choice of the freed transmitter, case by case; then the requests, oldest first. -/
theorem transmitterAlternates : Obligations.TransmitterAlternates := by
  unfold Obligations.TransmitterAlternates
  refine ⟨?_, ?_, ?_, ?_⟩
  · intro s f hn hs plain idle next
    rw [exec_frameTransmitted hn hs plain]
    have freed (o : Outbox) (h : idle.choose = o) :
        (.next s.freeTransmitter.takeAll : Answered) = .next (State.takeAll { s with out := o }) := by
      rw [← h]
      rfl
    refine ⟨fun hr he => freed _ ?_, fun r rs hr turn => freed _ ?_, fun e es he turn => freed _ ?_⟩
    · exact Outbox.choose_of_empty hr he
    · exact Outbox.choose_of_reply rfl hr turn
    · exact Outbox.choose_of_event rfl he turn
  · intro s hn hs
    have row : exec .frameTransmitted s = .next s.frameEnds := State.live_of_nrst hn _
    rw [row, State.frameEnds]
    simp [hs]
  · intro s hq
    rw [State.takeAll, hq]
    rfl
  · exact fun s r rest hq => ⟨State.takeAll_of_mayTake hq, State.takeAll_of_waiting⟩

end Sys2Proof.Machine
end

section
/-! Frames on TXD (R155, R156, R159, R163, R171, R172). -/

namespace Sys2Proof.Machine

/-! ## The bytes -/

theorem ofNat_div_eq_extract {w : Nat} (b : BitVec w) (k : Nat) : BitVec.ofNat 8 (b.toNat / 2 ^ k) = b.extractLsb' k 8 := by
  apply BitVec.eq_of_toNat_eq
  simp [Nat.shiftRight_eq_div_pow]

theorem out16_toNat (b : BitVec 16) : out16 b.toNat = [b.extractLsb' 0 8, b.extractLsb' 8 8] := by
  have low := ofNat_div_eq_extract b 0
  have high := ofNat_div_eq_extract b 8
  norm_num at low high
  simp [out16, low, high]

theorem outStamp_eq (t : Stamp) :
    outStamp t = [t.extractLsb' 0 8, t.extractLsb' 8 8, t.extractLsb' 16 8, t.extractLsb' 24 8] := by
  have byte0 := ofNat_div_eq_extract t 0
  have byte1 := ofNat_div_eq_extract t 8
  have byte2 := ofNat_div_eq_extract t 16
  have byte3 := ofNat_div_eq_extract t 24
  norm_num at byte0 byte1 byte2 byte3
  simp [outStamp, out32, out16, Nat.div_div_eq_div_mul, byte0, byte1, byte2, byte3]

theorem EventRecord.body_eq (e : EventRecord) : (TxFrame.event e).body =
    [0, 0x7E, BitVec.ofNat 8 e.kind.code, BitVec.ofNat 8 e.source, BitVec.ofNat 8 e.count,
      if e.overflow then 1 else 0, e.epoch, e.stamp.extractLsb' 0 8, e.stamp.extractLsb' 8 8,
      e.stamp.extractLsb' 16 8, e.stamp.extractLsb' 24 8, e.detail.extractLsb' 0 8, e.detail.extractLsb' 8 8] := by
  rw [TxFrame.body, EventRecord.bytes, outFlag_eq, outStamp_eq, out16_toNat]
  rfl

/-! ## The frame -/

theorem lineFrame_eq (body : List Byte) : lineFrame body =
    0xA5 :: BitVec.ofNat 8 body.length :: (body ++ [0 - frameSum (BitVec.ofNat 8 body.length :: body)]) := rfl

theorem goodFrame_lineFrame {r : Request} (hp : r.payload.length ≤ 248) :
    goodFrame (lineFrame (r.tag :: r.kind :: r.payload)).tail = some r := by
  have count : (BitVec.ofNat 8 (r.payload.length + 1 + 1)).toNat = r.payload.length + 2 := by
    rw [BitVec.toNat_ofNat, Nat.mod_eq_of_lt (by omega)]
  have sum (len : Byte) : frameSum (len :: r.tag :: r.kind :: r.payload) =
      r.payload.foldl (· + ·) (len + r.tag + r.kind) := by simp [frameSum]
  rw [lineFrame_eq, List.tail_cons, List.cons_append, List.cons_append, goodFrame_cons _ _ _ _ _ hp, sum,
    if_pos ⟨by simpa using count, by simp⟩]

/-! ## The levels -/

theorem byteLevels_eq (b : Byte) : byteLevels b = [false, b.getLsbD 0, b.getLsbD 1, b.getLsbD 2, b.getLsbD 3, b.getLsbD 4,
    b.getLsbD 5, b.getLsbD 6, b.getLsbD 7, true] := rfl

theorem readLevels_of_low_stop (b : Byte) : readLevels ((byteLevels b).take 9 ++ [false]) = none := by
  simp [byteLevels_eq, readLevels]

theorem State.txdLevel_of_sending {s : State} {f : TxFrame} (hs : s.out.sending = some f) {i j : Nat} {b : Byte}
    (hb : (lineFrame f.body)[i]? = some b) (hj : j < 10) (time : s.out.sentTicks / 20 = 10 * i + j) :
    (byteLevels b)[j]? = some s.txdLevel := by
  have sent : s.txd = lineFrame f.body := by simp [State.txd, hs]
  have standing : (lineLevels s.txd)[s.out.sentTicks / Config.bitTicks]? = (byteLevels b)[j]? := by
    rw [show Config.bitTicks = 20 from rfl, time, lineLevels_getElem? _ _ _ hj, sent, hb]
    rfl
  have there : j < (byteLevels b).length := by simpa using hj
  rw [State.txdLevel, standing, List.getElem?_eq_getElem there]
  rfl

/-- Settles O23: the checksum closes the sum; the bytes of an event; the levels of a byte; the level at a bit time. -/
theorem sentFramesAreGood : Obligations.SentFramesAreGood := by
  unfold Obligations.SentFramesAreGood
  refine ⟨fun r hp => ⟨rfl, goodFrame_lineFrame hp⟩, fun _ => rfl, rfl, EventRecord.body_eq, fun e => ⟨?_, ?_⟩,
    fun b => ⟨byteLevels_eq b, readLevels_byteLevels b, readLevels_of_low_stop b⟩, fun s h => ?_,
    fun s f i j b hs hb hj time => State.txdLevel_of_sending hs hb hj time⟩
  · rw [lineFrame_eq, EventRecord.body_eq]
    rfl
  · rw [TxFrame.lineTicks, EventRecord.body_eq]
    rfl
  · have silent : s.txd = [] := by simp [State.txd, h]
    simp [State.txdLevel, silent, lineLevels]

end Sys2Proof.Machine
end

section
/-! The value checks of selected fields, and SET-CHANNEL's payload (R83, R84, R173, R174). -/

namespace Sys2Proof.Machine

/-! ## A selected field -/

theorem inRange_of_mem {low high n : Nat} (h : low ≤ n ∧ n ≤ high) : inRange low high n = some n := if_pos h

theorem inRange_of_not_mem {low high n : Nat} (h : ¬ (low ≤ n ∧ n ≤ high)) : inRange low high n = none := if_neg h

/-- A field whose check passes exactly under `P`, with the value `v`. -/
theorem whenSelected_checked {α : Type} {sel bit : Nat} {checked : Option α} {P : Prop} {v : α}
    (pass : P → checked = some v) (fail : ¬ P → checked = none) {x : Option α} :
    whenSelected sel bit checked = some x ↔
      (sel.testBit bit = true → P) ∧ x = if sel.testBit bit = true then some v else none := by
  unfold whenSelected
  by_cases selected : sel.testBit bit = true
  · by_cases h : P
    · simp [selected, pass h, h, eq_comm]
    · simp [selected, fail h, h]
  · simp [selected, eq_comm]

theorem whenSelected_inRange {sel bit low high n : Nat} {x : Option Nat} :
    whenSelected sel bit (inRange low high n) = some x ↔
      (sel.testBit bit = true → low ≤ n ∧ n ≤ high) ∧ x = if sel.testBit bit = true then some n else none :=
  whenSelected_checked inRange_of_mem inRange_of_not_mem

theorem whenSelected_any {α : Type} {sel bit : Nat} {v : α} {x : Option α} :
    whenSelected sel bit (some v) = some x ↔ x = if sel.testBit bit = true then some v else none := by
  simpa using whenSelected_checked (P := True) (sel := sel) (bit := bit) (checked := some v) (x := x)
    (fun _ => rfl) (fun h => absurd trivial h)

theorem enableOfCode_of_le {n : Nat} (h : n ≤ 1) : enableOfCode n = some (n == 1) := by
  obtain rfl | rfl : n = 0 ∨ n = 1 := by omega
  · rfl
  · rfl

theorem enableOfCode_of_gt {n : Nat} (h : ¬ n ≤ 1) : enableOfCode n = none := by
  unfold enableOfCode
  split
  · omega
  · omega
  · rfl

/-- A field whose code names a value: the check passes for the codes that name one. -/
theorem whenSelected_named {α : Type} {code : α → Nat} {ofCode : Nat → Option α}
    (named : ∀ n v, ofCode n = some v ↔ code v = n) {sel bit n : Nat} {x : Option α} :
    whenSelected sel bit (ofCode n) = some x ↔
      x.map code = (if sel.testBit bit = true then some n else none) := by
  unfold whenSelected
  by_cases selected : sel.testBit bit = true
  · simp only [selected, if_true, Option.map_eq_some_iff, named]
    exact ⟨fun ⟨v, hv, hx⟩ => ⟨v, hx.symm, hv⟩, fun ⟨v, hx, hv⟩ => ⟨v, hv, hx.symm⟩⟩
  · simp [selected, eq_comm]

theorem Rounding.ofCode_eq_some_iff (n : Nat) (m : Rounding) : Rounding.ofCode n = some m ↔ m.code = n := by
  constructor
  · intro h
    unfold Rounding.ofCode at h
    split at h <;> cases h <;> rfl
  · rintro rfl
    cases m <;> rfl

theorem Rounding.exists_code {n : Nat} (h : n ≤ 3) : ∃ m : Rounding, m.code = n := by
  obtain rfl | rfl | rfl | rfl : n = 0 ∨ n = 1 ∨ n = 2 ∨ n = 3 := by omega
  exacts [⟨.rnu, rfl⟩, ⟨.rne, rfl⟩, ⟨.rdn, rfl⟩, ⟨.rod, rfl⟩]

theorem Rounding.code_le (m : Rounding) : m.code ≤ 3 := by cases m <;> decide

/-! ## SET-CHANNEL -/

/-- The value check is the check of every selected field, and of the selection. -/
theorem ChannelWrite.ofPayload_eq_some_iff (p : List Byte) (w : ChannelWrite) :
    ChannelWrite.ofPayload p = some w ↔
      u16 p 1 < 2048 ∧ whenSelected (u16 p 1) 0 (enableOfCode (u8 p 3)) = some w.enable ∧
      whenSelected (u16 p 1) 1 (inRange 500 4000 (u16 p 4)) = some w.period ∧
      whenSelected (u16 p 1) 2 (inRange 0 200 (u16 p 6)) = some w.minPulse ∧
      whenSelected (u16 p 1) 3 (inRange 1 1000 (u16 p 8)) = some w.maxBase ∧
      whenSelected (u16 p 1) 4 (inRange 1 1000 (u16 p 10)) = some w.slewBase ∧
      whenSelected (u16 p 1) 5 (inRange 0 4095 (u16 p 12)) = some w.limitBase ∧
      whenSelected (u16 p 1) 6 (some (u8 p 14)) = some w.gain ∧
      whenSelected (u16 p 1) 7 (inRange 0 1000 (u16 p 15)) = some w.relax ∧
      whenSelected (u16 p 1) 8 (Rounding.ofCode (u8 p 17)) = some w.rounding ∧
      whenSelected (u16 p 1) 9 (inRange 1 256 (u16 p 18)) = some w.divider ∧
      whenSelected (u16 p 1) 10 (inRange 20 2000 (u16 p 20)) = some w.holdTime := by
  simp only [ChannelWrite.ofPayload]
  split
  · next h => exact ⟨fun h => absurd h (by simp), fun h' => absurd h'.1 (by omega)⟩
  · next h =>
    simp only [Option.bind_eq_bind, Option.bind_eq_some_iff, Option.pure_def, Option.some.injEq]
    constructor
    · rintro ⟨_, h0, _, h1, _, h2, _, h3, _, h4, _, h5, _, h6, _, h7, _, h8, _, h9, _, h10, rfl⟩
      exact ⟨by omega, h0, h1, h2, h3, h4, h5, h6, h7, h8, h9, h10⟩
    · rintro ⟨-, h0, h1, h2, h3, h4, h5, h6, h7, h8, h9, h10⟩
      exact ⟨_, h0, _, h1, _, h2, _, h3, _, h4, _, h5, _, h6, _, h7, _, h8, _, h9, _, h10, rfl⟩

theorem takeSetChannel_badArg {p : List Byte} (hu : u8 p 0 < 4) (bad : ChannelWrite.ofPayload p = none) (s : State) :
    takeSetChannel p s = s.refuse .badArg [byteAt p 0] := by
  simp [takeSetChannel, unitNumber_eq_some hu, bad]

/-- Settles O24: each selected field's check, and the field it writes. -/
theorem setChannelPayloadIsChecked : Obligations.SetChannelPayloadIsChecked := by
  unfold Obligations.SetChannelPayloadIsChecked
  intro p sel good
  have fields (w : ChannelWrite) : ChannelWrite.ofPayload p = some w ↔ _ := ChannelWrite.ofPayload_eq_some_iff p w
  simp only [whenSelected_inRange, whenSelected_any, whenSelected_checked enableOfCode_of_le enableOfCode_of_gt,
    whenSelected_named Rounding.ofCode_eq_some_iff] at fields
  have checked : (ChannelWrite.ofPayload p).isSome = true ↔ good := by
    constructor
    · intro passed
      obtain ⟨w, hw⟩ := Option.isSome_iff_exists.1 passed
      obtain ⟨hsel, ⟨h0, -⟩, ⟨h1, -⟩, ⟨h2, -⟩, ⟨h3, -⟩, ⟨h4, -⟩, ⟨h5, -⟩, -, ⟨h7, -⟩, h8, ⟨h9, -⟩, h10, -⟩ := (fields w).1 hw
      refine ⟨hsel, h0, h1, fun h => (h2 h).2, h3, h4, fun h => (h5 h).2, fun h => (h7 h).2, fun h => ?_, h9, h10⟩
      obtain ⟨m, -, hm⟩ := Option.map_eq_some_iff.1 (h8.trans (if_pos h))
      exact hm ▸ m.code_le
    · rintro ⟨hsel, h0, h1, h2, h3, h4, h5, h7, h8, h9, h10⟩
      have rounding : ∃ x : Option Rounding, x.map Rounding.code = if sel 8 = true then some (u8 p 17) else none := by
        by_cases h : sel 8 = true
        · obtain ⟨m, hm⟩ := Rounding.exists_code (h8 h)
          exact ⟨some m, by rw [if_pos h, ← hm]; rfl⟩
        · exact ⟨none, by rw [if_neg h]; rfl⟩
      obtain ⟨x, hx⟩ := rounding
      exact Option.isSome_iff_exists.2 ⟨⟨_, _, _, _, _, _, _, _, x, _, _⟩, (fields _).2
        ⟨hsel, ⟨h0, rfl⟩, ⟨h1, rfl⟩, ⟨fun h => ⟨by omega, h2 h⟩, rfl⟩, ⟨h3, rfl⟩, ⟨h4, rfl⟩, ⟨fun h => ⟨by omega, h5 h⟩, rfl⟩,
          rfl, ⟨fun h => ⟨by omega, h7 h⟩, rfl⟩, hx, ⟨h9, rfl⟩, h10, rfl⟩⟩
  refine ⟨checked, fun w hw => ?_, fun s tag h ht hp hu bad => ?_⟩
  · obtain ⟨-, ⟨-, w0⟩, ⟨-, w1⟩, ⟨-, w2⟩, ⟨-, w3⟩, ⟨-, w4⟩, ⟨-, w5⟩, w6, ⟨-, w7⟩, w8, ⟨-, w9⟩, -, w10⟩ := (fields w).1 hw
    exact ⟨w0, w1, w2, w3, w4, w5, w6, w7, w8, w9, w10⟩
  · have failed : ChannelWrite.ofPayload p = none := by
      rw [← Option.not_isSome_iff_eq_none, checked]
      exact bad
    exact exec_row_refused h .setChannel ht hp (takeSetChannel_badArg hu failed _)

end Sys2Proof.Machine
end

section
/-! SET-CHANNEL that leaves the enable as it is (R84, R85, R111). -/

namespace Sys2Proof.Machine

/-! ## A recompute -/

/-- A recompute writes the channels and the counting units. -/
theorem State.recompute_eq_drive (s : State) (c : ChanId) :
    s.recompute c = { s with chans := (s.recompute c).chans, counters := (s.recompute c).counters } := by
  have frame := State.recompute_frame s c
  generalize s.recompute c = u at frame ⊢
  cases u
  simp_all

theorem Counter.sameCounts_handed (k : Counter) (before u : Nat) (now : Stamp) : (k.handed before u now).sameCounts k := by
  unfold Counter.handed
  split
  · rfl
  · split
    · split <;> rfl
    · rfl

theorem State.counter_recompute_kept (s : State) (c : ChanId) (k : UnitId) :
    ((s.recompute c).counter k).sameCounts (s.counter k) ∧
      (unitOf c ≠ some k → (s.recompute c).counter k = s.counter k) := by
  rw [State.counter_recompute]
  refine ⟨?_, fun h => if_neg h⟩
  split
  · exact Counter.sameCounts_handed _ _ _ _
  · rfl

theorem State.freshMagnitude_recompute (s : State) (c : ChanId) : (s.recompute c).freshMagnitude c := by
  simp only [State.freshMagnitude, State.effMax_recompute, State.chan_recompute_self]
  have layer : (s.recompute c).layer c = s.layer c := by simp [State.layer]
  rw [layer]
  exact ⟨rfl, rfl⟩

theorem State.setChan_chan (s : State) (c : ChanId) : s.setChan c (s.chan c) = s := by
  simp only [State.setChan, State.chan, Table.put_get]

/-! ## The hold time -/

theorem State.hold_writeHoldTime (s : State) (c : ChanId) (time : Option Nat) (g : HoldGroup) :
    (s.writeHoldTime c time).hold g =
      if g = groupOf c then { time := time.getD (s.hold g).time, left := (s.hold g).left } else s.hold g := by
  cases time with
  | none => simp [State.writeHoldTime]
  | some t =>
    rw [State.writeHoldTime, State.hold, State.hold_setHold]
    by_cases h : g = groupOf c
    · subst h
      simp
    · have other : groupIndex (groupOf c) ≠ groupIndex g := by
        revert h
        cases g <;> cases groupOf c <;> decide
      simp only [if_neg h, if_neg other]
      rfl

/-! ## The write -/

/-- A SET-CHANNEL writes the maximum, the slew or the limit. -/
def ChannelWrite.forms (w : ChannelWrite) : Bool := w.maxBase.isSome || w.slewBase.isSome || w.limitBase.isSome

/-- A SET-CHANNEL that leaves the enable ends in a recompute. -/
def ChannelWrite.recomputes (w : ChannelWrite) : Bool := w.forms || w.minPulse.isSome || w.rounding.isSome

theorem ChannelWrite.recomputes_iff (w : ChannelWrite) :
    w.recomputes = true ↔ w.forms = true ∨ w.minPulse.isSome = true ∨ w.rounding.isSome = true := by
  simp [ChannelWrite.recomputes, or_assoc]

/-- The channel as an accepted SET-CHANNEL writes it, before a recompute: F goes to 0 where the effective values are
formed and the effective limit is 0 (R116). -/
def State.channelWritten (s : State) (c : ChanId) (w : ChannelWrite) : Channel :=
  { (s.chan c).written w with
    fold := if w.forms && effective (s.overrides c).limit (w.limitBase.getD (s.chan c).limitBase) == 0 then 0
            else (s.chan c).fold }

/-- The state with the channel and the hold time written, before a recompute. -/
def State.writtenFor (s : State) (c : ChanId) (w : ChannelWrite) : State :=
  (s.writeHoldTime c w.holdTime).setChan c (s.channelWritten c w)

/-- The fields are written in two steps, of the channel and of the hold time. -/
theorem State.writeHoldTime_setChan (s : State) (c d : ChanId) (v : Channel) (time : Option Nat) :
    (s.setChan c v).writeHoldTime d time = (s.writeHoldTime d time).setChan c v := by
  cases time <;> rfl

theorem State.writeEnable_of_kept {s : State} {c : ChanId} {enable : Option Bool}
    (h : enable = none ∨ enable = some (decide ((s.chan c).state ≠ .off))) : s.writeEnable c enable = s := by
  rcases h with rfl | rfl
  · rfl
  · by_cases off : (s.chan c).state = .off <;> simp [State.writeEnable, off]

theorem State.afterChannelWrite_eq (s : State) (c : ChanId) (w : ChannelWrite) : s.afterChannelWrite c w =
    if w.forms = true then s.reformed c
    else if (w.minPulse.isSome || w.rounding.isSome) = true then s.recompute c else s := rfl

theorem State.reformed_eq (s : State) (c : ChanId) :
    s.reformed c = (s.setChan c { s.chan c with fold := if s.effLimit c == 0 then 0 else (s.chan c).fold }).recompute c := by
  unfold State.reformed
  by_cases h : s.effLimit c = 0
  · simp [h]
  · simpa [h] using congrArg (fun t => t.recompute c) (s.setChan_chan c).symm

theorem State.setChan_setChan (s : State) (c : ChanId) (v v' : Channel) : (s.setChan c v).setChan c v' = s.setChan c v' := by
  simp [State.setChan, Table.put]

theorem State.writeChannel_of_kept {s : State} {c : ChanId} {w : ChannelWrite}
    (h : w.enable = none ∨ w.enable = some (decide ((s.chan c).state ≠ .off))) :
    s.writeChannel c w = if w.recomputes = true then (s.writtenFor c w).recompute c else s.writtenFor c w := by
  have same : ((s.setChan c ((s.chan c).written w)).writeHoldTime c w.holdTime).writeEnable c w.enable =
      (s.writeHoldTime c w.holdTime).setChan c ((s.chan c).written w) := by
    rw [State.writeHoldTime_setChan]
    refine State.writeEnable_of_kept ?_
    rw [State.chan_setChan_self]
    exact h
  have plain (hf : w.forms = false) : s.channelWritten c w = (s.chan c).written w := by
    simp [State.channelWritten, hf, Channel.written]
  rw [State.writeChannel, same, State.afterChannelWrite_eq]
  by_cases hf : w.forms = true
  · have hr : w.recomputes = true := by simp [ChannelWrite.recomputes, hf]
    rw [if_pos hf, if_pos hr, State.reformed_eq, State.setChan_setChan, State.chan_setChan_self]
    have limit : ((s.writeHoldTime c w.holdTime).setChan c ((s.chan c).written w)).effLimit c =
        effective (s.overrides c).limit (w.limitBase.getD (s.chan c).limitBase) := by
      simp [State.effLimit, State.overrides, Channel.written]
    rw [limit, State.writtenFor, State.channelWritten, hf]
    rfl
  · have hf' : w.forms = false := by simpa using hf
    rw [if_neg hf, State.writtenFor, plain hf']
    by_cases hm : (w.minPulse.isSome || w.rounding.isSome) = true
    · rw [if_pos hm, if_pos (by simpa [ChannelWrite.recomputes, hf'] using hm)]
    · rw [if_neg hm, if_neg (by simpa [ChannelWrite.recomputes, hf'] using hm)]

end Sys2Proof.Machine
end

section
/-! An accepted SET-CHANNEL: what it writes, and O25 (R84, R85, R111). -/

namespace Sys2Proof.Machine

/-! ## What any accepted SET-CHANNEL writes -/

theorem State.writeChannel_eq_drive (s : State) (c : ChanId) (w : ChannelWrite) :
    s.writeChannel c w = { s with
      chans := (s.writeChannel c w).chans, holds := (s.writeChannel c w).holds
      counters := (s.writeChannel c w).counters } := by
  have frame := State.writeChannel_frame s c w
  generalize s.writeChannel c w = u at frame ⊢
  cases u
  simp_all

theorem State.chan_writeChannel_ne (s : State) {c d : ChanId} (w : ChannelWrite) (h : d ≠ c) :
    (s.writeChannel c w).chan d = s.chan d :=
  (s.agreesOff_writeChannel c w d (Ne.symm h)).chan

theorem State.holds_writeChannel (s : State) (c : ChanId) (w : ChannelWrite) :
    (s.writeChannel c w).holds = (s.writeHoldTime c w.holdTime).holds := by
  have late (t : State) : ((t.writeEnable c w.enable).afterChannelWrite c w).holds = t.holds := by simp
  rw [State.writeChannel, late, State.writeHoldTime_setChan]
  rfl

theorem State.hold_writeChannel (s : State) (c : ChanId) (w : ChannelWrite) (g : HoldGroup) :
    (s.writeChannel c w).hold g =
      if g = groupOf c then { time := w.holdTime.getD (s.hold g).time, left := (s.hold g).left } else s.hold g := by
  rw [← State.hold_writeHoldTime, State.hold, State.hold, State.holds_writeChannel]

theorem exec_setChannel_accepted {s : State} {tag : Byte} {p : List Byte} {c : ChanId} {w : ChannelWrite}
    (h : s.takesAtOnce) (ht : tag ≠ 0) (hp : p.length = 22) (hc : u8 p 0 = c.val)
    (hw : ChannelWrite.ofPayload p = some w) :
    exec (.setChannel tag p) s = .next ((s.seeHigh.writeChannel c w).pushReply
      { tag := tag, kind := 0x90, payload := [0, s.epoch] ++ (s.seeHigh.writeChannel c w).channelReport c }) := by
  have taken : takeSetChannel p s.seeHigh =
      { state := s.seeHigh.writeChannel c w, result := .ok, fields := (s.seeHigh.writeChannel c w).channelReport c } := by
    simp [takeSetChannel, unitNumber_val hc, hw]
  have epoch : (s.seeHigh.writeChannel c w).epoch = s.epoch := by
    rw [State.writeChannel_eq_drive]
    rfl
  rw [show exec (.setChannel tag p) s = exec (RequestKind.setChannel.row tag p) s from rfl,
    exec_row_reply h .setChannel ht hp taken]
  dsimp only
  rw [epoch]
  rfl

/-! ## The enable left as it is -/

theorem State.writtenFor_eq (s : State) (c : ChanId) (w : ChannelWrite) :
    s.writtenFor c w = { s with holds := (s.writtenFor c w).holds }.setChan c (s.channelWritten c w) := by
  unfold State.writtenFor
  cases w.holdTime <;> rfl

theorem State.chan_writtenFor (s : State) (c : ChanId) (w : ChannelWrite) :
    (s.writtenFor c w).chan c = s.channelWritten c w := by
  rw [State.writtenFor, State.chan_setChan_self]

theorem State.counters_writtenFor (s : State) (c : ChanId) (w : ChannelWrite) :
    (s.writtenFor c w).counters = s.counters := by
  rw [State.writtenFor_eq]
  rfl

/-- The channel of the written state, with the magnitude it had. -/
def Channel.withMagnitudeOf (c v : Channel) : Channel :=
  { c with mag := v.mag, nextOn := v.nextOn, limCurrent := v.limCurrent, limCap := v.limCap }

theorem State.withMagnitudeOf_formed (s t : State) (c : ChanId) (w : ChannelWrite) :
    (t.formed c (s.channelWritten c w)).withMagnitudeOf (s.chan c) = s.channelWritten c w := rfl

theorem State.effLimit_of_written {s u : State} {c : ChanId} {w : ChannelWrite} (hp : u.profiles = s.profiles)
    (ha : u.activeProfile = s.activeProfile) (hc : (u.chan c).limitBase = (s.channelWritten c w).limitBase) :
    u.effLimit c = effective (s.overrides c).limit (w.limitBase.getD (s.chan c).limitBase) := by
  simp only [State.effLimit, State.overrides, hp, ha, hc]
  rfl

/-- What an accepted SET-CHANNEL that leaves the enable as it is leads to: the written state, and for some selections a
recompute. -/
structure State.KeptWrite (s : State) (c : ChanId) (w : ChannelWrite) (u : State) : Prop where
  recomputed : w.recomputes = true → u = (s.writtenFor c w).recompute c
  plain : ¬ w.recomputes = true → u = s.writtenFor c w

theorem State.keptWrite_writeChannel {s : State} {c : ChanId} {w : ChannelWrite}
    (h : w.enable = none ∨ w.enable = some (decide ((s.chan c).state ≠ .off))) : s.KeptWrite c w (s.writeChannel c w) where
  recomputed hr := by rw [State.writeChannel_of_kept h, if_pos hr]
  plain hr := by rw [State.writeChannel_of_kept h, if_neg hr]

variable {s u : State} {c : ChanId} {w : ChannelWrite}

theorem State.KeptWrite.withMagnitude (h : s.KeptWrite c w u) :
    (u.chan c).withMagnitudeOf (s.chan c) = s.channelWritten c w := by
  by_cases hr : w.recomputes = true
  · rw [h.recomputed hr, State.chan_recompute_self, State.chan_writtenFor]
    exact State.withMagnitudeOf_formed s _ c w
  · rw [h.plain hr, State.chan_writtenFor]
    rfl

theorem State.KeptWrite.same (h : s.KeptWrite c w u) : (u.chan c).sameButMagnitude (s.channelWritten c w) := by
  rw [← h.withMagnitude]
  exact rfl

theorem State.KeptWrite.written (h : s.KeptWrite c w u) :
    { s with holds := u.holds }.setChan c ((u.chan c).withMagnitudeOf (s.chan c)) = s.writtenFor c w := by
  have holds : u.holds = (s.writtenFor c w).holds := by
    by_cases hr : w.recomputes = true
    · rw [h.recomputed hr]
      simp
    · rw [h.plain hr]
  rw [h.withMagnitude, holds, ← State.writtenFor_eq]

theorem State.KeptWrite.counter (h : s.KeptWrite c w u) (k : UnitId) :
    (u.counter k).sameCounts (s.counter k) ∧ (unitOf c ≠ some k → u.counter k = s.counter k) := by
  have kept : (s.writtenFor c w).counter k = s.counter k := by rw [State.counter, State.counters_writtenFor]; rfl
  by_cases hr : w.recomputes = true
  · rw [h.recomputed hr, ← kept]
    exact State.counter_recompute_kept _ c k
  · rw [h.plain hr, kept]
    exact ⟨rfl, fun _ => rfl⟩

end Sys2Proof.Machine
end

section
/-! O25: an accepted SET-CHANNEL that leaves the enable as it is. -/

namespace Sys2Proof.Machine

theorem State.channelReport_eq (s : State) (c : ChanId) : s.channelReport c =
    [BitVec.ofNat 8 c.val, BitVec.ofNat 8 (s.chan c).state.code, if (s.chan c).state = .off then 0 else 1] ++
      out16 (s.chan c).period ++ out16 ((s.chan c).pendingPeriod.getD (s.chan c).period) ++
      out16 (s.chan c).minPulse ++ out16 (s.chan c).maxBase ++ out16 (s.chan c).slewBase ++
      out16 (s.chan c).limitBase ++ out8 (s.chan c).gain ++ out16 (s.chan c).relax ++
      out8 (s.chan c).rounding.code ++ out16 (s.chan c).divider ++ out16 (s.hold (groupOf c)).time := by
  have enabled : outFlag ((s.chan c).state != .off) = [if (s.chan c).state = .off then 0 else 1] := by
    cases (s.chan c).state <;> rfl
  rw [State.channelReport, enabled]
  rfl

/-- Settles O25: the written state, and a recompute of it where the selection asks for one. -/
theorem setChannelWritesFields : Obligations.SetChannelWritesFields := by
  unfold Obligations.SetChannelWritesFields
  intro s tag p c w h ht hp hc hw enable
  have kept : s.seeHigh.KeptWrite c w (s.seeHigh.writeChannel c w) := State.keptWrite_writeChannel enable
  have frame := s.seeHigh.writeChannel_eq_drive c w
  have others (d : ChanId) (hd : d ≠ c) := s.seeHigh.chan_writeChannel_ne w hd
  have holds := s.seeHigh.hold_writeChannel c w
  refine ⟨s.seeHigh.writeChannel c w, (exec_setChannel_accepted h ht hp hc hw).trans ?_, frame, others, holds, ?_,
    kept.counter⟩
  all_goals generalize s.seeHigh.writeChannel c w = u at kept frame others holds ⊢
  · have state : (u.chan c).state = (s.chan c).state := by rw [kept.same]; rfl
    rw [State.channelReport_eq, state]
    rfl
  · have limit : u.effLimit c = effective (s.overrides c).limit (w.limitBase.getD (s.chan c).limitBase) :=
      State.effLimit_of_written (s := s.seeHigh) (by rw [frame]) (by rw [frame])
        (by rw [kept.same])
    refine ⟨?_, fun hr => ?_, fun hr => ?_, fun hr => ?_⟩
    · rw [limit]
      exact kept.same
    · rw [kept.recomputed (w.recomputes_iff.2 hr)]
      exact State.freshMagnitude_recompute _ c
    · exact (kept.recomputed (w.recomputes_iff.2 hr)).trans (congrArg (fun t => t.recompute c) kept.written.symm)
    · have plain := kept.plain (fun hr' => hr (w.recomputes_iff.1 hr'))
      have chan : u.chan c = s.seeHigh.channelWritten c w := by rw [plain, State.chan_writtenFor]
      refine ⟨plain.trans kept.written.symm, ?_, ?_⟩
      · rw [plain, State.counters_writtenFor]
        rfl
      · rw [chan]
        exact ⟨rfl, rfl, rfl, rfl⟩

end Sys2Proof.Machine
end

section
/-! SET-CHANNEL with the enable (R90). -/

namespace Sys2Proof.Machine

/-! ## A recompute of a channel that rests -/

/-- R, U, the next on-ticks and F are 0. -/
structure Channel.Rests (v : Channel) : Prop where
  ramped : v.ramped = 0
  mag : v.mag = 0
  nextOn : v.nextOn = 0
  fold : v.fold = 0

/-- A unit that is kept or comes to rest, twice. -/
theorem Counter.kept_or_atRest_trans {own : Prop} {a b d : Counter} (h : b = a ∨ own ∧ b = a.atRest)
    (h' : d = b ∨ own ∧ d = b.atRest) : d = a ∨ own ∧ d = a.atRest := by
  rcases h, h' with ⟨rfl | ⟨own, rfl⟩, rfl | ⟨own', rfl⟩⟩
  · exact Or.inl rfl
  · exact Or.inr ⟨own', rfl⟩
  · exact Or.inr ⟨own, rfl⟩
  · exact Or.inr ⟨own, rfl⟩

/-- The channel is as it was; its unit is as it was, or at rest. -/
structure State.RestsAs (c : ChanId) (s t : State) : Prop where
  chan : t.chan c = s.chan c
  counter : ∀ k, t.counter k = s.counter k ∨ (unitOf c = some k ∧ t.counter k = (s.counter k).atRest)

theorem State.RestsAs.refl (c : ChanId) (s : State) : s.RestsAs c s := ⟨rfl, fun _ => Or.inl rfl⟩

theorem State.RestsAs.trans {c : ChanId} {s t u : State} (h : s.RestsAs c t) (h' : t.RestsAs c u) : s.RestsAs c u where
  chan := h'.chan.trans h.chan
  counter k := Counter.kept_or_atRest_trans (h.counter k) (h'.counter k)

theorem State.counter_recompute_of_ramped_zero {s : State} {c : ChanId} (h : (s.chan c).ramped = 0) (k : UnitId) :
    (s.recompute c).counter k = if unitOf c = some k then (s.counter k).atRest else s.counter k := by
  have mag : (s.formed c (s.chan c)).mag = 0 := by rw [State.formed, Channel.recomputed_of_ramped_zero _ _ _ h]
  rw [State.counter_recompute, mag]
  rfl

theorem State.restsAs_recompute {s : State} {c : ChanId} (h : (s.chan c).Rests) : s.RestsAs c (s.recompute c) where
  chan := by
    rw [State.chan_recompute_self, State.formed, Channel.recomputed_of_ramped_zero _ _ _ h.ramped, ← h.mag]
    obtain ⟨-, mag, next, -⟩ := h
    generalize s.chan c = v at mag next
    cases v
    simp_all
  counter k := by
    rw [State.counter_recompute_of_ramped_zero h.ramped]
    by_cases own : unitOf c = some k
    · exact Or.inr ⟨own, if_pos own⟩
    · exact Or.inl (if_neg own)

theorem State.restsAs_reformed {s : State} {c : ChanId} (h : (s.chan c).Rests) : s.RestsAs c (s.reformed c) := by
  have fold : (if s.effLimit c == 0 then 0 else (s.chan c).fold) = (s.chan c).fold := by rw [h.fold, ite_self]
  rw [State.reformed_eq, fold]
  have same : s.setChan c { s.chan c with fold := (s.chan c).fold } = s := s.setChan_chan c
  rw [same]
  exact State.restsAs_recompute h

theorem State.restsAs_afterChannelWrite {s : State} {c : ChanId} (h : (s.chan c).Rests) (w : ChannelWrite) :
    s.RestsAs c (s.afterChannelWrite c w) := by
  rw [State.afterChannelWrite_eq]
  split
  · exact State.restsAs_reformed h
  · split
    · exact State.restsAs_recompute h
    · exact .refl c s

/-! ## Enabling and disabling -/

theorem Layer.halts_iff (l : Layer) : l.halts = true ↔ l = .coast ∨ l = .brake := by
  cases l <;> simp [Layer.halts]

/-- An OFF channel as the enable leaves it (R90). -/
def Channel.enabledUnder (v : Channel) (l : Layer) : Channel :=
  { v with state := if l = .coast ∨ l = .brake then .halt else .idle, period := v.pendingPeriod.getD v.period
           pendingPeriod := none, phase := 0, pulsed := false }

theorem State.enableChannel_of_rest {s : State} {c : ChanId} (h : (s.chan c).Rests) :
    (s.enableChannel c).chan c = (s.chan c).enabledUnder (s.layer c) ∧
      ∀ k, (s.enableChannel c).counter k = s.counter k ∨
        (unitOf c = some k ∧ (s.enableChannel c).counter k = (s.counter k).atRest) := by
  obtain ⟨ramped, mag, next, fold⟩ := h
  have state : (if (s.layer c).halts then ChanState.halt else ChanState.idle) =
      if s.layer c = .coast ∨ s.layer c = .brake then .halt else .idle := by simp only [Layer.halts_iff]
  simp only [State.enableChannel, State.takePeriod, State.chan_setChan_self, state]
  split
  · next unset =>
    refine ⟨?_, fun k => Or.inl rfl⟩
    rw [State.chan_setChan_self, Channel.enabledUnder, unset]
    rfl
  · next p pending =>
    rw [State.setChan_setChan]
    have rested := State.restsAs_recompute (c := c) (s := s.setChan c ((s.chan c).enabledUnder (s.layer c)))
      (by rw [State.chan_setChan_self]; exact ⟨ramped, mag, next, fold⟩)
    have taken : (s.chan c).enabledUnder (s.layer c) = { s.chan c with
        state := if s.layer c = .coast ∨ s.layer c = .brake then .halt else .idle, period := p
        pendingPeriod := none, phase := 0, pulsed := false } := by rw [Channel.enabledUnder, pending]; rfl
    rw [← taken]
    exact ⟨rested.chan.trans (State.chan_setChan_self _ _ _), rested.counter⟩

/-- A channel as the disable leaves it (R90). -/
def Channel.disabled (v : Channel) : Channel :=
  { v with state := .off, target := 0, ramped := 0, fold := 0, mag := 0, nextOn := 0, activeOn := 0
           brakeHeld := false, centreCount := 0, phase := 0, pulsed := false }

theorem Channel.rests_disabled (v : Channel) : v.disabled.Rests := ⟨rfl, rfl, rfl, rfl⟩

theorem State.chan_disableChannel (s : State) (c : ChanId) : (s.disableChannel c).chan c = (s.chan c).disabled := by
  rw [State.disableChannel, State.chan_recompute_self, State.formed, State.chan_setChan_self,
    Channel.recomputed_of_ramped_zero _ _ _ rfl]
  rfl

theorem State.counter_disableChannel (s : State) (c : ChanId) (k : UnitId) :
    (s.disableChannel c).counter k = if unitOf c = some k then (s.counter k).atRest else s.counter k := by
  rw [State.disableChannel, State.counter_recompute_of_ramped_zero (by rw [State.chan_setChan_self])]
  rfl

end Sys2Proof.Machine
end

section
/-! O26: SET-CHANNEL that switches the enable. -/

namespace Sys2Proof.Machine

/-- The channel and the hold time written, with the enable still to come. -/
def State.beforeEnable (s : State) (c : ChanId) (w : ChannelWrite) : State :=
  (s.writeHoldTime c w.holdTime).setChan c ((s.chan c).written w)

theorem State.writeChannel_eq (s : State) (c : ChanId) (w : ChannelWrite) :
    s.writeChannel c w = ((s.beforeEnable c w).writeEnable c w.enable).afterChannelWrite c w := by
  rw [State.writeChannel, State.writeHoldTime_setChan, State.beforeEnable]

theorem State.chan_beforeEnable (s : State) (c : ChanId) (w : ChannelWrite) :
    (s.beforeEnable c w).chan c = (s.chan c).written w := State.chan_setChan_self _ _ _

theorem State.counter_beforeEnable (s : State) (c : ChanId) (w : ChannelWrite) (k : UnitId) :
    (s.beforeEnable c w).counter k = s.counter k := by
  unfold State.beforeEnable
  cases w.holdTime <;> rfl

theorem State.layer_beforeEnable (s : State) (c d : ChanId) (w : ChannelWrite) :
    (s.beforeEnable c w).layer d = s.layer d := by
  unfold State.beforeEnable
  cases w.holdTime <;> rfl

variable {s : State} {c : ChanId} {w : ChannelWrite}

theorem State.writeChannel_enables (on : w.enable = some true) (off : (s.chan c).state = .off) (rest : (s.chan c).atZero)
    (fold : (s.chan c).fold = 0) :
    (s.writeChannel c w).chan c = ((s.chan c).written w).enabledUnder (s.layer c) ∧
      ∀ k, (s.writeChannel c w).counter k = s.counter k ∨
        (unitOf c = some k ∧ (s.writeChannel c w).counter k = (s.counter k).atRest) := by
  obtain ⟨-, ramped, mag, next, -⟩ := rest
  have rests : ((s.beforeEnable c w).chan c).Rests := by
    rw [State.chan_beforeEnable]
    exact ⟨ramped, mag, next, fold⟩
  have written : s.writeChannel c w = ((s.beforeEnable c w).enableChannel c).afterChannelWrite c w := by
    have still : ((s.beforeEnable c w).chan c).state = .off := by rw [State.chan_beforeEnable]; exact off
    rw [State.writeChannel_eq, on, State.writeEnable]
    simp only [still, if_true]
  obtain ⟨enabled, units⟩ := State.enableChannel_of_rest rests
  rw [State.chan_beforeEnable, State.layer_beforeEnable] at enabled
  have rests' : (((s.beforeEnable c w).enableChannel c).chan c).Rests := by
    rw [enabled]
    exact ⟨ramped, mag, next, fold⟩
  have after := State.restsAs_afterChannelWrite rests' w
  rw [written]
  refine ⟨after.chan.trans enabled, fun k => ?_⟩
  have unit := units k
  rw [State.counter_beforeEnable] at unit
  exact Counter.kept_or_atRest_trans unit (after.counter k)

theorem State.writeChannel_disables (off : w.enable = some false) (on : (s.chan c).state ≠ .off) :
    (s.writeChannel c w).chan c = ((s.chan c).written w).disabled ∧
      ∀ k, (s.writeChannel c w).counter k = if unitOf c = some k then (s.counter k).atRest else s.counter k := by
  have written : s.writeChannel c w = ((s.beforeEnable c w).disableChannel c).afterChannelWrite c w := by
    have still : ((s.beforeEnable c w).chan c).state ≠ .off := by rw [State.chan_beforeEnable]; exact on
    rw [State.writeChannel_eq, off, State.writeEnable]
    simp only [still, if_false]
  have disabled := (s.beforeEnable c w).chan_disableChannel c
  rw [State.chan_beforeEnable] at disabled
  have after := State.restsAs_afterChannelWrite (disabled ▸ Channel.rests_disabled _) w
  rw [written]
  refine ⟨after.chan.trans disabled, fun k => ?_⟩
  have unit := (s.beforeEnable c w).counter_disableChannel c k
  rw [State.counter_beforeEnable] at unit
  rcases after.counter k with e | ⟨own, e⟩
  · exact e.trans unit
  · rw [if_pos own] at unit ⊢
    rw [e, unit]
    rfl

/-- Settles O26: the enable of a channel that rests, and the disable, each with the recompute that may follow. -/
theorem setChannelSwitchesEnable : Obligations.SetChannelSwitchesEnable := by
  unfold Obligations.SetChannelSwitchesEnable
  intro s tag p c w h ht hp hc hw
  exact ⟨s.seeHigh.writeChannel c w, exec_setChannel_accepted h ht hp hc hw, s.seeHigh.writeChannel_eq_drive c w,
    fun d hd => s.seeHigh.chan_writeChannel_ne w hd, s.seeHigh.hold_writeChannel c w,
    State.writeChannel_enables (s := s.seeHigh), State.writeChannel_disables (s := s.seeHigh)⟩

end Sys2Proof.Machine
end

section
/-! DRIVE: its fields, its refusals and its effect (R91, R95 to R98, R174). -/

namespace Sys2Proof.Machine

/-! ## The fields -/

theorem u16_eq_append (p : List Byte) (i : Nat) : u16 p i = (byteAt p (i + 1) ++ byteAt p i).toNat := by
  have low : (byteAt p i).toNat < 2 ^ 8 := (byteAt p i).isLt
  rw [BitVec.toNat_append, ← Nat.shiftLeft_add_eq_or_of_lt low, Nat.shiftLeft_eq]
  simp only [u16, u8]
  omega

theorem s16_eq_append (p : List Byte) (i : Nat) : s16 p i = (byteAt p (i + 1) ++ byteAt p i).toInt := by
  rw [s16, u16_eq_append, BitVec.ofNat_toNat, BitVec.setWidth_eq]

theorem DriveRequest.names_ofPayload (p : List Byte) (c : ChanId) :
    (DriveRequest.ofPayload p).names c = (byteAt p 0).getLsbD c.val := by
  have below : c.val < 4 := c.isLt
  simp [DriveRequest.names, DriveRequest.ofPayload, u8, below]

theorem DriveRequest.targets_ofPayload (p : List Byte) (c : ChanId) :
    (DriveRequest.ofPayload p).targets.get c = (byteAt p (3 + 2 * c.val) ++ byteAt p (2 + 2 * c.val)).toInt := by
  have field : (DriveRequest.ofPayload p).targets.get c = s16 p (2 + 2 * c.val) := by
    fin_cases c <;> rfl
  rw [field, s16_eq_append]
  congr 3
  omega

theorem clampTarget_eq (c : ChanId) (t : Int) : clampTarget c t = max (if c = 2 then 0 else -1000) (min 1000 t) := by
  unfold clampTarget
  split <;> rfl

/-! ## The checks -/

theorem State.driveNamesOff_iff (s : State) (d : DriveRequest) :
    s.driveNamesOff d = true ↔ ∃ c : ChanId, d.names c = true ∧ (s.chan c).state = .off := by
  simp [State.driveNamesOff, mem_allChans]

theorem State.driveGuarded_iff (s : State) (d : DriveRequest) :
    s.driveGuarded d = true ↔ ∃ c : ChanId, d.names c = true ∧ (s.chan c).state = .halt ∧ d.target c ≠ 0 := by
  simp [State.driveGuarded, mem_allChans, and_assoc]

theorem DriveRequest.clamps_iff (d : DriveRequest) :
    d.clamps = true ↔ ∃ c : ChanId, d.names c = true ∧ d.target c ≠ d.targets.get c := by
  simp [DriveRequest.clamps, mem_allChans]

theorem DriveRequest.namesGroup_iff (d : DriveRequest) (g : HoldGroup) :
    d.namesGroup g = true ↔ ∃ c : ChanId, d.names c = true ∧ groupOf c = g := by
  simp [DriveRequest.namesGroup, mem_allChans]

section
variable {p : List Byte} {s : State}

theorem takeDrive_stale (stale : (DriveRequest.ofPayload p).epoch ≠ s.epoch) :
    takeDrive p s = s.refuse .staleEpoch s.chanStates := if_pos stale

theorem takeDrive_off (fresh : (DriveRequest.ofPayload p).epoch = s.epoch)
    (off : ∃ c : ChanId, (DriveRequest.ofPayload p).names c = true ∧ (s.chan c).state = .off) :
    takeDrive p s = s.refuse .channelOff s.chanStates := by
  have named := (s.driveNamesOff_iff _).2 off
  simp only [takeDrive, fresh, named, ne_eq, not_true_eq_false, if_false, if_true]

theorem takeDrive_of_on (fresh : (DriveRequest.ofPayload p).epoch = s.epoch)
    (on : ∀ c : ChanId, (DriveRequest.ofPayload p).names c = true → (s.chan c).state ≠ .off) :
    takeDrive p s =
      if s.driveGuarded (DriveRequest.ofPayload p) = true then s.refuse .guarded s.chanStates
      else
        { state := s.applyDrive (DriveRequest.ofPayload p)
          result := if (DriveRequest.ofPayload p).clamps then .clamped else .ok
          fields := (s.applyDrive (DriveRequest.ofPayload p)).chanStates } := by
  have named : ¬ s.driveNamesOff (DriveRequest.ofPayload p) = true := by
    rw [State.driveNamesOff_iff]
    rintro ⟨c, named, off⟩
    exact on c named off
  dsimp only [takeDrive]
  rw [if_neg (not_not_intro fresh), if_neg named]

theorem takeDrive_guarded (fresh : (DriveRequest.ofPayload p).epoch = s.epoch)
    (on : ∀ c : ChanId, (DriveRequest.ofPayload p).names c = true → (s.chan c).state ≠ .off)
    (guarded : ∃ c : ChanId, (DriveRequest.ofPayload p).names c = true ∧ (s.chan c).state = .halt ∧
      (DriveRequest.ofPayload p).target c ≠ 0) :
    takeDrive p s = s.refuse .guarded s.chanStates := by
  rw [takeDrive_of_on fresh on, if_pos ((s.driveGuarded_iff _).2 guarded)]

theorem takeDrive_accepted (fresh : (DriveRequest.ofPayload p).epoch = s.epoch)
    (on : ∀ c : ChanId, (DriveRequest.ofPayload p).names c = true → (s.chan c).state ≠ .off)
    (free : ∀ c : ChanId, (DriveRequest.ofPayload p).names c = true → (s.chan c).state = .halt →
      (DriveRequest.ofPayload p).target c = 0) :
    takeDrive p s =
      { state := s.applyDrive (DriveRequest.ofPayload p)
        result := if (DriveRequest.ofPayload p).clamps then .clamped else .ok
        fields := (s.applyDrive (DriveRequest.ofPayload p)).chanStates } := by
  have unguarded : ¬ s.driveGuarded (DriveRequest.ofPayload p) = true := by
    rw [State.driveGuarded_iff]
    rintro ⟨c, named, halt, target⟩
    exact target (free c named halt)
  rw [takeDrive_of_on fresh on, if_neg unguarded]

end

/-- Settles O27: the fields as bits of the payload; the three checks in their order. -/
theorem driveIsChecked : Obligations.DriveIsChecked := by
  unfold Obligations.DriveIsChecked
  refine ⟨fun p c => ⟨DriveRequest.names_ofPayload p c, rfl, DriveRequest.targets_ofPayload p c, clampTarget_eq c _⟩, ?_⟩
  intro s tag p h ht hp d answer
  have refused (result : Result) (ha : takeDrive p s.seeHigh = s.seeHigh.refuse result s.seeHigh.chanStates) :
      exec (.drive tag p) s = answer result.code := exec_row_refused h .drive ht hp ha
  exact ⟨fun stale => refused .staleEpoch (takeDrive_stale stale),
    fun fresh off => refused .channelOff (takeDrive_off fresh off),
    fun fresh on guarded => refused .guarded (takeDrive_guarded fresh on guarded)⟩

/-! ## The effect -/

theorem State.hold_restartHold (s : State) (g g' : HoldGroup) :
    (s.restartHold g).hold g' = if g' = g then { s.hold g' with left := (s.hold g').time } else s.hold g' := by
  rw [State.restartHold, State.hold, State.hold_setHold]
  by_cases h : g' = g
  · subst h
    simp
  · have other : groupIndex g ≠ groupIndex g' := by
      revert h
      cases g <;> cases g' <;> decide
    simp only [if_neg h, if_neg other]
    rfl

theorem State.hold_restartHolds (s : State) (d : DriveRequest) (g : HoldGroup) :
    (s.restartHolds d).hold g = if d.namesGroup g = true then { s.hold g with left := (s.hold g).time } else s.hold g := by
  simp only [State.restartHolds]
  cases hm : d.namesGroup .motion <;> cases hb : d.namesGroup .blade <;> cases g <;>
    simp [hm, hb, State.hold_restartHold]

theorem State.applyDrive_eq (s : State) (d : DriveRequest) :
    s.applyDrive d = { s with chans := (s.applyDrive d).chans, holds := (s.applyDrive d).holds } := by
  have frame := State.applyDrive_frame s d
  generalize s.applyDrive d = u at frame ⊢
  cases u
  simp_all

theorem State.chan_applyDrive (s : State) (d : DriveRequest) (c : ChanId) :
    (s.applyDrive d).chan c = if d.names c = true then (s.chan c).driven (d.target c) else s.chan c := by
  have later : (s.applyDrive d).chan c = (s.setTargets d).chan c := by simp [State.applyDrive, State.chan]
  rw [later, (s.setTargets_agrees d c).chan]
  split
  · exact State.chan_setChan_self _ _ _
  · rfl

theorem State.hold_applyDrive (s : State) (d : DriveRequest) (g : HoldGroup) : (s.applyDrive d).hold g =
    if ∃ c : ChanId, d.names c = true ∧ groupOf c = g then { s.hold g with left := (s.hold g).time } else s.hold g := by
  have before : (s.setTargets d).hold g = s.hold g := by simp [State.hold]
  simp only [State.applyDrive, State.hold_restartHolds, before, DriveRequest.namesGroup_iff]

/-- Settles O28: the checks passed, then the targets and the hold timers. -/
theorem driveSetsTargets : Obligations.DriveSetsTargets := by
  unfold Obligations.DriveSetsTargets
  refine ⟨by decide, ?_⟩
  intro s tag p h ht hp d fresh on free
  have taken : takeDrive p s.seeHigh =
      { state := s.seeHigh.applyDrive d, result := if d.clamps then .clamped else .ok
        fields := (s.seeHigh.applyDrive d).chanStates } := takeDrive_accepted fresh on free
  have code : (if d.clamps then Result.clamped else Result.ok).code =
      if ∃ c : ChanId, d.names c = true ∧ d.target c ≠ d.targets.get c then 1 else 0 := by
    simp only [← DriveRequest.clamps_iff]
    split <;> rfl
  refine ⟨s.seeHigh.applyDrive d, (exec_row_reply h .drive ht hp taken).trans ?_, s.seeHigh.applyDrive_eq d,
    s.seeHigh.chan_applyDrive d, s.seeHigh.hold_applyDrive d⟩
  have epoch : (s.seeHigh.applyDrive d).epoch = s.epoch := by
    rw [State.applyDrive_eq]
    rfl
  dsimp only
  rw [epoch, code]
  rfl

end Sys2Proof.Machine
end

section
/-! STOP-ALL (R100). -/

namespace Sys2Proof.Machine

theorem State.chan_stopChannel_self (brake : Bool) (s : State) (c : ChanId) :
    (State.stopChannel brake s c).chan c =
      { s.chan c with target := 0, ramped := 0, mag := 0, nextOn := 0
                      brakeHeld := if brake then true else (s.chan c).brakeHeld } := by
  cases brake with
  | false => rw [stopChannel_false, State.chan_zeroDrive_self]; rfl
  | true => simp [State.stopChannel, State.chan_zeroDrive_self]

theorem State.counter_stopChannel_own (brake : Bool) (s : State) (k : UnitId) :
    (State.stopChannel brake s (chanOf k)).counter k = (s.counter k).atRest := by
  cases brake with
  | false => rw [stopChannel_false, State.counter_zeroDrive_own]
  | true =>
    have own := s.counter_zeroDrive_own k
    simp only [State.stopChannel, if_true]
    exact own

theorem State.chan_advanceEpoch (s : State) (c : ChanId) : s.advanceEpoch.chan c = s.chan c := rfl

theorem State.counter_advanceEpoch (s : State) (k : UnitId) : s.advanceEpoch.counter k = s.counter k := rfl

theorem State.chan_stopAll (s : State) (brake : Bool) (c : ChanId) :
    (s.stopAll brake).chan c = if (s.chan c).state = .off then s.chan c else
      { s.chan c with target := 0, ramped := 0, mag := 0, nextOn := 0
                      brakeHeld := if brake then true else (s.chan c).brakeHeld } := by
  rw [State.stopAll, State.chan_advanceEpoch, (State.onEnabled_agrees (LocalWork.stopChannel brake) s c).chan]
  split
  · rfl
  · exact s.chan_stopChannel_self brake c

theorem State.counter_stopAll (s : State) (brake : Bool) (k : UnitId) :
    (s.stopAll brake).counter k =
      if (s.chan (chanOf k)).state = .off then s.counter k else (s.counter k).atRest := by
  rw [State.stopAll, State.counter_advanceEpoch,
    (State.onEnabled_agrees (LocalWork.stopChannel brake) s (chanOf k)).counter k rfl]
  split
  · rfl
  · exact s.counter_stopChannel_own brake k

theorem State.stopAll_eq_drive (s : State) (brake : Bool) : s.stopAll brake =
    { s with chans := (s.stopAll brake).chans, counters := (s.stopAll brake).counters, epoch := s.epoch + 1 } := by
  have frame := s.stopAll_frame brake
  have epoch : (s.stopAll brake).epoch = s.epoch + 1 := by simp [State.stopAll, State.advanceEpoch]
  generalize s.stopAll brake = u at frame epoch ⊢
  cases u
  simp_all

/-- Settles O29: each enabled channel by the work on one; the refusal by the option. -/
theorem stopAllZeroesEnabledChannels : Obligations.StopAllZeroesEnabledChannels := by
  unfold Obligations.StopAllZeroesEnabledChannels
  intro s tag b h ht
  refine ⟨fun option => ?_, fun wrong => ?_⟩
  · have taken : takeStopAll [b] s.seeHigh = { state := s.seeHigh.stopAll (b == 1), result := .ok, fields := [] } := by
      rcases option with rfl | rfl <;> rfl
    have epoch : (s.seeHigh.stopAll (b == 1)).epoch = s.epoch + 1 := by
      rw [State.stopAll_eq_drive]
      rfl
    refine ⟨s.seeHigh.stopAll (b == 1), (exec_row_reply h .stopAll ht rfl taken).trans ?_, s.seeHigh.stopAll_eq_drive _,
      fun c => ?_, s.seeHigh.counter_stopAll _⟩
    · dsimp only
      rw [epoch]
      rfl
    · rw [State.chan_stopAll]
      simp only [beq_iff_eq]
      rfl
  · have unknown : enableOfCode b.toNat = none := enableOfCode_of_gt (by bv_omega)
    have refused : takeStopAll [b] s.seeHigh = s.seeHigh.refuse .badArg [] := by
      simp [takeStopAll, stopOption, u8, byteAt, unknown]
    exact exec_row_refused h .stopAll ht rfl refused

end Sys2Proof.Machine
end

section
/-! SET-PROFILE and SELECT-PROFILE (R108 to R111, R175). -/

namespace Sys2Proof.Machine

/-! ## The effective values formed afresh -/

theorem State.effLimit_recompute (s : State) (c d : ChanId) : (s.recompute c).effLimit d = s.effLimit d := by
  simp only [State.effLimit, State.overrides, State.recompute_frame, State.chan_recompute_eq]
  split
  · next same => subst same; rfl
  · rfl

/-- The channel as forming the effective values leaves it, before the recompute (R116). -/
def State.refolded (s : State) (c : ChanId) : Channel :=
  { s.chan c with fold := if s.effLimit c = 0 then 0 else (s.chan c).fold }

theorem State.reformed_eq_refolded (s : State) (c : ChanId) :
    s.reformed c = (s.setChan c (s.refolded c)).recompute c := by
  rw [State.reformed_eq, State.refolded]
  simp only [beq_iff_eq]

theorem State.effLimit_reformed (s : State) (c : ChanId) : (s.reformed c).effLimit c = s.effLimit c := by
  rw [State.reformed_eq_refolded, State.effLimit_recompute]
  simp [State.effLimit, State.refolded, State.overrides]

theorem State.chan_reformed (s : State) (c : ChanId) : (s.reformed c).chan c = s.formed c (s.refolded c) := by
  rw [State.reformed_eq_refolded, State.chan_recompute_self, State.chan_setChan_self, State.formed_setChan]

theorem State.sameButMagnitude_reformed (s : State) (c : ChanId) :
    ((s.reformed c).chan c).sameButMagnitude (s.refolded c) := by
  rw [State.chan_reformed]
  exact rfl

theorem State.freshMagnitude_reformed (s : State) (c : ChanId) : (s.reformed c).freshMagnitude c := by
  rw [State.reformed_eq_refolded]
  exact State.freshMagnitude_recompute _ c

theorem State.counter_reformed_kept (s : State) (c : ChanId) (k : UnitId) :
    ((s.reformed c).counter k).sameCounts (s.counter k) ∧
      (unitOf c ≠ some k → (s.reformed c).counter k = s.counter k) := by
  rw [State.reformed_eq_refolded]
  exact State.counter_recompute_kept (s.setChan c (s.refolded c)) c k

/-! ## SET-PROFILE -/

theorem out16_u16 (p : List Byte) (i : Nat) : out16 (u16 p i) = [byteAt p i, byteAt p (i + 1)] := by
  have low : (byteAt p i).toNat < 256 := (byteAt p i).isLt
  have high : (byteAt p (i + 1)).toNat < 256 := (byteAt p (i + 1)).isLt
  have first : BitVec.ofNat 8 (u16 p i) = byteAt p i := by
    apply BitVec.eq_of_toNat_eq
    simp only [BitVec.toNat_ofNat, u16, u8]
    omega
  have second : BitVec.ofNat 8 (u16 p i / 256) = byteAt p (i + 1) := by
    apply BitVec.eq_of_toNat_eq
    simp only [BitVec.toNat_ofNat, u16, u8]
    omega
  rw [out16, first, second]

theorem eq_bytesAt_of_length_eight {p : List Byte} (h : p.length = 8) :
    p = [byteAt p 0, byteAt p 1, byteAt p 2, byteAt p 3, byteAt p 4, byteAt p 5, byteAt p 6, byteAt p 7] := by
  match p, h with
  | [_, _, _, _, _, _, _, _], _ => rfl

theorem ofNat_u8 (p : List Byte) (i : Nat) : BitVec.ofNat 8 (u8 p i) = byteAt p i := by
  rw [u8, BitVec.ofNat_toNat, BitVec.setWidth_eq]

theorem Overrides.ofPayload_of_good {p : List Byte} (h : u16 p 2 ≤ 1000 ∧ u16 p 4 ≤ 1000 ∧ u16 p 6 ≤ 4095) :
    Overrides.ofPayload p = some { maximum := u16 p 2, slew := u16 p 4, limit := u16 p 6 } := by
  obtain ⟨maximum, slew, limit⟩ := h
  simp [Overrides.ofPayload, inRange, maximum, slew, limit]

theorem Overrides.ofPayload_of_bad {p : List Byte} (h : ¬ (u16 p 2 ≤ 1000 ∧ u16 p 4 ≤ 1000 ∧ u16 p 6 ≤ 4095)) :
    Overrides.ofPayload p = none := by
  rw [Option.eq_none_iff_forall_ne_some]
  intro o passed
  simp only [Overrides.ofPayload, Option.bind_eq_bind, Option.bind_eq_some_iff, inRange_eq_some] at passed
  obtain ⟨_, ⟨-, maximum⟩, _, ⟨-, slew⟩, _, ⟨-, limit⟩, -⟩ := passed
  exact h ⟨by omega, by omega, by omega⟩

end Sys2Proof.Machine
end

section
/-! O30: the profiles. -/

namespace Sys2Proof.Machine

/-! ## SET-PROFILE -/

theorem State.writeProfile_of_active {s : State} {pf : Fin 4} (c : ChanId) (o : Overrides) (h : pf = s.activeProfile) :
    s.writeProfile pf c o = (s.setOverrides pf c o).reformed c := if_pos h

theorem State.writeProfile_of_other {s : State} {pf : Fin 4} (c : ChanId) (o : Overrides) (h : pf ≠ s.activeProfile) :
    s.writeProfile pf c o = s.setOverrides pf c o := if_neg h

theorem State.writeProfile_eq (s : State) (pf : Fin 4) (c : ChanId) (o : Overrides) : s.writeProfile pf c o =
    { s with
      profiles := (s.writeProfile pf c o).profiles, chans := (s.writeProfile pf c o).chans
      counters := (s.writeProfile pf c o).counters } := by
  have frame := s.writeProfile_frame pf c o
  generalize s.writeProfile pf c o = u at frame ⊢
  cases u
  simp_all

theorem State.profiles_reformed (s : State) (c : ChanId) : (s.reformed c).profiles = s.profiles := by
  rw [State.reformed_eq_refolded]
  simp

theorem State.profiles_writeProfile (s : State) (pf : Fin 4) (c : ChanId) (o : Overrides) :
    (s.writeProfile pf c o).profiles = (s.setOverrides pf c o).profiles := by
  by_cases active : pf = s.activeProfile
  · rw [State.writeProfile_of_active c o active, State.profiles_reformed]
  · rw [State.writeProfile_of_other c o active]

theorem State.profile_setOverrides (s : State) (pf i : Fin 4) (c d : ChanId) (o : Overrides) :
    ((s.setOverrides pf c o).profiles.get i).get d = if i = pf ∧ d = c then o else (s.profiles.get i).get d := by
  simp only [State.setOverrides, Table.get_put]
  by_cases hi : pf = i
  · subst hi
    by_cases hd : c = d
    · subst hd; simp
    · simp [Table.get_put, hd, Ne.symm hd]
  · simp [hi, Ne.symm hi]

/-- A write of the active profile: the channel's effective values are formed afresh. -/
theorem State.reformed_setOverrides_eq {s : State} {pf : Fin 4} {c : ChanId} {o : Overrides} {u : State}
    (h : u = (s.setOverrides pf c o).reformed c) :
    u = ({ s with profiles := u.profiles }.setChan c
      { s.chan c with fold := if u.effLimit c = 0 then 0 else (s.chan c).fold }).recompute c := by
  have limit : u.effLimit c = (s.setOverrides pf c o).effLimit c := by rw [h, State.effLimit_reformed]
  have profiles : u.profiles = (s.setOverrides pf c o).profiles := by rw [h, State.profiles_reformed]
  rw [limit, profiles, h, State.reformed_eq_refolded]
  rfl

theorem exec_setProfile_accepted {s : State} {tag : Byte} {p : List Byte} {pf c : Fin 4} (h : s.takesAtOnce)
    (ht : tag ≠ 0) (hp : p.length = 8) (hpf : u8 p 0 = pf.val) (hc : u8 p 1 = c.val)
    (good : u16 p 2 ≤ 1000 ∧ u16 p 4 ≤ 1000 ∧ u16 p 6 ≤ 4095) :
    exec (.setProfile tag p) s = .next ((s.seeHigh.writeProfile pf c
        { maximum := u16 p 2, slew := u16 p 4, limit := u16 p 6 }).pushReply
      { tag := tag, kind := 0x93, payload := [0, s.epoch] ++ p ++ [BitVec.ofNat 8 s.activeProfile.val] }) := by
  have fields : out8 pf.val ++ out8 c.val ++ out16 (u16 p 2) ++ out16 (u16 p 4) ++ out16 (u16 p 6) = p := by
    rw [← hpf, ← hc]
    simp only [out8, ofNat_u8, out16_u16]
    exact (eq_bytesAt_of_length_eight hp).symm
  have taken : takeSetProfile p s.seeHigh =
      { state := s.seeHigh.writeProfile pf c { maximum := u16 p 2, slew := u16 p 4, limit := u16 p 6 }
        result := .ok, fields := p ++ out8 s.activeProfile.val } := by
    simp only [takeSetProfile, unitNumber_val hpf, unitNumber_val hc, Overrides.ofPayload_of_good good, fields]
    rfl
  have epoch : (s.seeHigh.writeProfile pf c { maximum := u16 p 2, slew := u16 p 4, limit := u16 p 6 }).epoch = s.epoch := by
    rw [State.writeProfile_eq]
    rfl
  refine (exec_row_reply h .setProfile ht hp taken).trans ?_
  dsimp only
  rw [epoch]
  rfl

theorem exec_setProfile_refused {s : State} {tag : Byte} {p : List Byte} {pf c : Fin 4} (h : s.takesAtOnce)
    (ht : tag ≠ 0) (hp : p.length = 8) (hpf : u8 p 0 = pf.val) (hc : u8 p 1 = c.val)
    (bad : ¬ (u16 p 2 ≤ 1000 ∧ u16 p 4 ≤ 1000 ∧ u16 p 6 ≤ 4095)) :
    exec (.setProfile tag p) s = .next (s.seeHigh.pushReply
      { tag := tag, kind := 0x93, payload := [4, s.epoch, byteAt p 0, byteAt p 1] }) := by
  have refused : takeSetProfile p s.seeHigh = s.seeHigh.refuse .badArg [byteAt p 0, byteAt p 1] := by
    simp only [takeSetProfile, unitNumber_val hpf, unitNumber_val hc, Overrides.ofPayload_of_bad bad]
  exact exec_row_refused h .setProfile ht hp refused

/-! ## SELECT-PROFILE -/

theorem State.selectProfile_eq (s : State) (pf : Fin 4) : s.selectProfile pf =
    { s with
      activeProfile := pf, chans := (s.selectProfile pf).chans, counters := (s.selectProfile pf).counters } := by
  have frame := s.selectProfile_frame pf
  have active : (s.selectProfile pf).activeProfile = pf := by simp [State.selectProfile, allChans]
  generalize s.selectProfile pf = u at frame active ⊢
  cases u
  simp_all

theorem State.selectProfile_agrees (s : State) (pf : Fin 4) (c : ChanId) :
    (State.reformed { s with activeProfile := pf } c).AgreesAt c (s.selectProfile pf) :=
  LocalWork.reformed.pass _ c

theorem State.AgreesAt.effLimit {c : ChanId} {s t : State} (h : s.AgreesAt c t) : t.effLimit c = s.effLimit c := by
  simp only [State.effLimit, State.overrides, h.profiles, h.activeProfile, h.chan]

theorem State.AgreesAt.freshMagnitude {c : ChanId} {s t : State} (h : s.AgreesAt c t) (fresh : s.freshMagnitude c) :
    t.freshMagnitude c := by
  have layer : t.layer c = s.layer c := by simp only [State.layer, h.sources]
  have maximum : t.effMax c = s.effMax c := by
    simp only [State.effMax, State.overrides, h.profiles, h.activeProfile, h.chan]
  rw [State.freshMagnitude, h.chan, layer, maximum]
  exact fresh

theorem State.eq_of_agreesAt {s t : State} (frame : t = { s with chans := t.chans, counters := t.counters })
    (h : ∀ c, s.AgreesAt c t) : t = s := by
  have chans : t.chans = s.chans := Vector.ext fun i hi => (h ⟨i, hi⟩).chan
  have counters : t.counters = s.counters := Vector.ext fun i hi => (h (chanOf ⟨i, hi⟩)).counter ⟨i, hi⟩ rfl
  rw [frame, chans, counters]

end Sys2Proof.Machine
end

section
/-! O30: the profile selected, and the obligation. -/

namespace Sys2Proof.Machine

/-- Work on channels that writes the channels and the counting units alone. -/
theorem State.foldl_eq_drive {f : State → ChanId → State}
    (hf : ∀ s c, f s c = { s with chans := (f s c).chans, counters := (f s c).counters }) (l : List ChanId) (s : State) :
    l.foldl f s = { s with chans := (l.foldl f s).chans, counters := (l.foldl f s).counters } := by
  induction l generalizing s with
  | nil => rfl
  | cons c l ih =>
    rw [List.foldl_cons, ih (f s c)]
    generalize (l.foldl f (f s c)).chans = chans
    generalize (l.foldl f (f s c)).counters = counters
    rw [hf]

theorem State.recomputeAll_eq (s : State) : allChans.foldl State.recompute s =
    { s with
      chans := (allChans.foldl State.recompute s).chans
      counters := (allChans.foldl State.recompute s).counters } :=
  State.foldl_eq_drive State.recompute_eq_drive allChans s

/-- Every channel with F as forming its effective values leaves it, before the recomputes. -/
def State.refoldedAll (s : State) : State := { s with chans := Vector.ofFn s.refolded }

theorem State.chan_refoldedAll (s : State) (c : ChanId) : s.refoldedAll.chan c = s.refolded c :=
  Vector.getElem_ofFn c.isLt

/-- Forming every channel's effective values is writing every F, then recomputing every channel. -/
theorem State.reformAll_eq (s : State) :
    allChans.foldl State.reformed s = allChans.foldl State.recompute s.refoldedAll := by
  apply State.eq_of_agreesAt
  · have frame : allChans.foldl State.reformed s = { s with
        chans := (allChans.foldl State.reformed s).chans
        counters := (allChans.foldl State.reformed s).counters } := s.selectProfile_eq s.activeProfile
    have frame' := s.refoldedAll.recomputeAll_eq
    generalize allChans.foldl State.reformed s = u at frame ⊢
    generalize allChans.foldl State.recompute s.refoldedAll = v at frame' ⊢
    rw [frame, frame']
    rfl
  · intro c
    have before : s.refoldedAll.AgreesAt c (s.setChan c (s.refolded c)) :=
      ⟨by rw [State.chan_setChan_self, State.chan_refoldedAll], fun _ _ => rfl, rfl, rfl, rfl, rfl⟩
    have one : (s.refoldedAll.recompute c).AgreesAt c (s.reformed c) := by
      rw [State.reformed_eq_refolded]
      exact LocalWork.recompute.congr _ _ _ before
    exact (LocalWork.recompute.pass s.refoldedAll c).symm.trans (one.trans (LocalWork.reformed.pass s c))

theorem u8_ofNat {n : Nat} (h : n < 256) (p : List Byte) : u8 (BitVec.ofNat 8 n :: p) 0 = n :=
  Nat.mod_eq_of_lt h

theorem exec_selectProfile {s : State} {tag : Byte} {pf : Fin 4} (h : s.takesAtOnce) (ht : tag ≠ 0) :
    exec (.selectProfile tag [BitVec.ofNat 8 pf.val]) s = .next ((s.seeHigh.selectProfile pf).pushReply
      { tag := tag, kind := 0x94, payload := [0, s.epoch, BitVec.ofNat 8 pf.val] }) := by
  have number : u8 [BitVec.ofNat 8 pf.val] 0 = pf.val := u8_ofNat (by omega) []
  have taken : takeSelectProfile [BitVec.ofNat 8 pf.val] s.seeHigh =
      { state := s.seeHigh.selectProfile pf, result := .ok, fields := out8 pf.val } := by
    simp only [takeSelectProfile, unitNumber_val number]
  have epoch : (s.seeHigh.selectProfile pf).epoch = s.epoch := by
    rw [State.selectProfile_eq]
    rfl
  refine (exec_row_reply h .selectProfile ht rfl taken).trans ?_
  dsimp only
  rw [epoch]
  rfl

/-- Settles O30: SET-PROFILE by whether its profile is active; SELECT-PROFILE channel by channel. -/
theorem profilesReformEffectiveValues : Obligations.ProfilesReformEffectiveValues := by
  unfold Obligations.ProfilesReformEffectiveValues
  refine ⟨fun s tag p pf c h ht hp hpf hc => ⟨fun good => ?_, exec_setProfile_refused h ht hp hpf hc⟩, ?_⟩
  · refine ⟨_, exec_setProfile_accepted h ht hp hpf hc good, State.writeProfile_eq _ _ _ _, fun i d => ?_, fun other => ?_,
      fun active => ?_⟩
    · rw [State.profiles_writeProfile]
      exact State.profile_setOverrides _ _ _ _ _ _
    · rw [State.writeProfile_of_other (s := s.seeHigh) c _ other]
      exact ⟨rfl, rfl⟩
    · rw [State.writeProfile_of_active (s := s.seeHigh) c _ active]
      generalize he : s.seeHigh.setOverrides pf c { maximum := u16 p 2, slew := u16 p 4, limit := u16 p 6 } = t
      have chan (d : ChanId) : t.chan d = s.chan d := by rw [← he]; rfl
      refine ⟨fun d hd => ((LocalWork.reformed.agreesOff t c d (Ne.symm hd)).chan).trans (chan d),
        t.freshMagnitude_reformed c, ?_, State.reformed_setOverrides_eq (s := s.seeHigh) (by rw [he]), fun k => ?_⟩
      · rw [State.effLimit_reformed, ← chan]
        exact t.sameButMagnitude_reformed c
      · have counter : t.counter k = s.counter k := by rw [← he]; rfl
        rw [← counter]
        exact t.counter_reformed_kept c k
  · intro s tag pf h ht
    refine ⟨_, exec_selectProfile h ht, State.selectProfile_eq _ _, ?_⟩
    have agrees := s.seeHigh.selectProfile_agrees pf
    have folded : s.seeHigh.selectProfile pf =
        allChans.foldl State.recompute (State.refoldedAll { s.seeHigh with activeProfile := pf }) :=
      State.reformAll_eq { s.seeHigh with activeProfile := pf }
    generalize s.seeHigh.selectProfile pf = u at agrees folded ⊢
    have limit (c : ChanId) : u.effLimit c = State.effLimit { s.seeHigh with activeProfile := pf } c := by
      rw [(agrees c).effLimit, State.effLimit_reformed]
    refine ⟨fun c => ⟨(agrees c).freshMagnitude (State.freshMagnitude_reformed _ c), ?_⟩, ?_, fun k => ?_⟩
    · rw [limit, (agrees c).chan]
      exact State.sameButMagnitude_reformed { s.seeHigh with activeProfile := pf } c
    · simp only [limit]
      exact folded
    · rw [(agrees (chanOf k)).counter k rfl]
      exact (State.counter_reformed_kept { s.seeHigh with activeProfile := pf } (chanOf k) k).1

end Sys2Proof.Machine
end

section
/-! SNAPSHOT, the output pins and the duty arithmetic (R86, R88, R103, R107, R117 to R121, R175). -/

namespace Sys2Proof.Machine

/-! ## SNAPSHOT -/

/-- The presence mask as the sum of the bits of the present fields, from bit `n` on. -/
theorem presenceMask_eq_sum (l : List (Bool × List Byte)) (n : Nat) :
    2 ^ n * presenceMask l = ((l.zipIdx n).map (fun f => if f.1.1 then 2 ^ f.2 else 0)).sum := by
  induction l generalizing n with
  | nil => simp [presenceMask]
  | cons f l ih =>
    obtain ⟨present, bytes⟩ := f
    have rest := ih (n + 1)
    rw [pow_succ] at rest
    cases present <;> simp only [presenceMask, bitOf, List.zipIdx_cons, List.map_cons, List.sum_cons, ← rest] <;>
      simp only [Bool.false_eq_true, if_false, if_true, pow_zero] <;> ring

theorem flatMap_present_eq_filter (l : List (Bool × List Byte)) :
    l.flatMap (fun f => if f.1 then f.2 else []) = (l.filter (fun f => f.1)).flatMap (fun f => f.2) := by
  induction l with
  | nil => rfl
  | cons f l ih =>
    obtain ⟨present, bytes⟩ := f
    cases present <;> simp [ih]

/-- The guard cap as SNAPSHOT reports it: 0 without one. -/
def Layer.reportedCap : Layer → Nat
  | .cap gc => gc
  | _ => 0

theorem Layer.getD_capOf (l : Layer) : l.capOf.getD 0 = l.reportedCap := by cases l <;> rfl

theorem bne_eq_decide_ne {α : Type} [DecidableEq α] (a b : α) : (a != b) = decide (a ≠ b) := by
  rw [Bool.eq_iff_iff]
  simp

/-- The fields of a snapshot, each with the condition of its presence. -/
theorem State.snapshotFields_eq (s : State) (c : ChanId) : s.snapshotFields c =
    [(decide ((s.chan c).target ≠ 0), outS16 (s.chan c).target), (decide ((s.chan c).ramped ≠ 0), outS16 (s.chan c).ramped),
     (decide ((s.chan c).fold ≠ 0), out16 (s.chan c).fold), (decide ((s.chan c).mag ≠ 0), out16 (s.chan c).mag),
     (decide ((s.chan c).nextOn ≠ 0), out16 (s.chan c).nextOn), (decide ((s.chan c).activeOn ≠ 0), out16 (s.chan c).activeOn),
     (decide (s.effMax c ≠ 0), out16 (s.effMax c)), (decide (s.effSlew c ≠ 0), out16 (s.effSlew c)),
     (decide (s.effLimit c ≠ 0), out16 (s.effLimit c)),
     (decide ((s.chan c).lastFeedback ≠ 0), out16 (s.chan c).lastFeedback.toNat),
     (decide ((s.layer c).reportedCap ≠ 0), out16 (s.layer c).reportedCap), (decide ((s.chan c).direction = .rev), [1])] := by
  have feedback : ((s.chan c).lastFeedback.toNat != 0) = decide ((s.chan c).lastFeedback ≠ 0) := by
    rw [Bool.eq_iff_iff]
    simp [BitVec.toNat_eq]
  simp only [State.snapshotFields, feedback, Layer.getD_capOf, bne_eq_decide_ne, beq_eq_decide]
  rfl

/-- Settles O31: the presence mask as a sum, the fields as a filter. -/
theorem snapshotReportsOneChannel : Obligations.SnapshotReportsOneChannel := by
  unfold Obligations.SnapshotReportsOneChannel
  intro s tag c h ht v cap fields
  have cap_eq : cap = (s.layer c).reportedCap := by
    simp only [cap]
    cases s.layer c <;> rfl
  have fields_eq : s.snapshotFields c = fields := by
    rw [State.snapshotFields_eq, ← cap_eq]
  have number : u8 [BitVec.ofNat 8 c.val] 0 = c.val := u8_ofNat (by omega) []
  have taken : takeSnapshot [BitVec.ofNat 8 c.val] s.seeHigh =
      { state := s.seeHigh, result := .ok, fields := s.snapshotReport c } := by
    simp only [takeSnapshot, unitNumber_val number]
    rfl
  have mask : presenceMask fields = (fields.zipIdx.map (fun f => if f.1.1 then 2 ^ f.2 else 0)).sum := by
    rw [← presenceMask_eq_sum]
    simp
  refine (exec_row_reply h .snapshot ht rfl taken).trans ?_
  rw [State.snapshotReport, fields_eq, mask, flatMap_present_eq_filter]
  rfl

/-! ## The output pins -/

/-- Settles O32: PWM and BRK state by state. -/
theorem outputsFollowState : Obligations.OutputsFollowState := by
  unfold Obligations.OutputsFollowState
  intro s c v
  have pwm : s.pwm c = match v.state with
      | .run => v.pulseOn
      | .dwell => v.pulseOn
      | _ => false := rfl
  have brk : s.brk c = match v.state with
      | .idle => v.brakeHeld
      | .halt => s.layer c == .brake || v.brakeHeld
      | _ => false := rfl
  have pulse : v.pulseOn = true ↔
      (v.period - v.activeOn) / 2 ≤ v.phase ∧ v.phase < (v.period - v.activeOn) / 2 + v.activeOn := by
    simp [Channel.pulseOn]
  cases hs : v.state <;> rw [hs] at pwm brk <;> simp only [pwm, brk]
  · simp [State.dir, v]
  · simp [State.dir, v]
  · simp [State.dir, v, pulse]
  · simp [State.dir, v, pulse]
  · simp +contextual [State.dir, v]

end Sys2Proof.Machine
end

section
/-! O33: the duty arithmetic (R107, R117 to R121). -/

namespace Sys2Proof.Machine

theorem rampStep_eq (t r : Int) (slew : Nat) :
    rampStep t r slew = if |t - r| ≤ slew then t else if r < t then r + slew else r - slew := by
  have distance : (t - r).natAbs ≤ slew ↔ |t - r| ≤ slew := by
    rw [Int.abs_eq_natAbs]
    omega
  simp only [rampStep, distance]

/-- With an even divisor, twice the remainder against the divisor is the remainder against its half. -/
theorem two_mul_vs_half {d r : Nat} (even : d % 2 = 0) :
    (d ≤ 2 * r ↔ r ≥ d / 2) ∧ (d < 2 * r ↔ r > d / 2) ∧ (2 * r = d ↔ r = d / 2) := by
  omega

theorem levelAfterCeilings_eq (v : Channel) (maximum : Nat) (cap : Option Nat) :
    levelAfterCeilings v maximum cap =
      min (min (v.ramped.natAbs - v.fold) maximum) (cap.getD (min (v.ramped.natAbs - v.fold) maximum)) := by
  cases cap with
  | none => simp [levelAfterCeilings, levelAfterFold]
  | some gc => rfl

theorem limitedByCap_iff (afterFold maximum : Nat) (cap : Option Nat) :
    limitedByCap afterFold maximum cap = true ↔ min afterFold maximum < afterFold ∨
      min (min afterFold maximum) (cap.getD (min afterFold maximum)) < min afterFold maximum := by
  cases cap with
  | none => simp [limitedByCap]
  | some gc =>
    simp only [limitedByCap, Bool.or_eq_true, decide_eq_true_eq, Option.getD_some]
    omega

theorem Channel.recomputed_mag (v : Channel) (maximum : Nat) (cap : Option Nat) :
    (v.recomputed maximum cap).mag = magnitudeOf v maximum cap := rfl

/-- Settles O33: each function of the duty computation by its equation. -/
theorem dutyArithmetic : Obligations.DutyArithmetic := by
  unfold Obligations.DutyArithmetic
  refine ⟨rampStep_eq, ?_, ?_, ?_⟩
  · intro x d _ even q r
    obtain ⟨up, above, half⟩ := two_mul_vs_half (d := d) (r := r) even
    refine ⟨?_, ?_, rfl, rfl⟩
    · simp only [← up]
      rfl
    · simp only [← above, ← half]
      rfl
  · intro v maximum cap a b m level w
    refine ⟨?_, rfl, ?_, ?_, rfl⟩
    · rw [Channel.recomputed_mag, magnitudeOf, levelAfterCeilings_eq]
    · simp [w, Channel.recomputed, limitedByCurrent, a]
    · have limited := limitedByCap_iff b maximum cap
      simp only [w, Channel.recomputed, Bool.or_eq_true]
      exact or_congr_right limited
  · intro s c cap w
    have capOf : cap = (s.layer c).capOf := by
      simp only [cap]
      cases s.layer c <;> rfl
    simp only [w, capOf]
    rw [State.recompute, State.handMagnitude]
    cases unitOf c <;> rfl

end Sys2Proof.Machine
end

section
/-! Hold timers and their expiry (R98, R99). -/

namespace Sys2Proof.Machine

/-! ## The timers -/

theorem State.groupMoving_iff (s : State) (g : HoldGroup) : s.groupMoving g = true ↔
    ∃ c : ChanId, groupOf c = g ∧ ((s.chan c).target ≠ 0 ∨ (s.chan c).ramped ≠ 0) := by
  simp [State.groupMoving, mem_allChans, Channel.moving]

theorem Hold.expires_iff (h : Hold) (moving : Bool) : h.expires moving = true ↔ moving = true ∧ h.left = 1 := by
  simp [Hold.expires]

theorem groupIndex_ne {g h : HoldGroup} (ne : h ≠ g) : groupIndex g ≠ groupIndex h := by
  revert ne
  cases g <;> cases h <;> decide

theorem State.hold_setHold_group (s : State) (g h : HoldGroup) (v : Hold) :
    (s.setHold (groupIndex g) v).hold h = if h = g then v else s.hold h := by
  rw [State.hold, State.hold_setHold]
  by_cases same : h = g
  · subst same
    simp
  · rw [if_neg same, if_neg (groupIndex_ne same)]
    rfl

/-- The timer of a moving group falls by one, and rests at 0. -/
theorem State.hold_countHold (s : State) (g h : HoldGroup) (moving : Bool) :
    (s.countHold g moving).hold h =
      if h = g ∧ moving = true then { s.hold h with left := (s.hold h).left - 1 } else s.hold h := by
  unfold State.countHold
  by_cases falls : (s.hold g).falls moving = true
  · have move : moving = true := by
      simp only [Hold.falls, Bool.and_eq_true] at falls
      exact falls.1
    rw [if_pos falls, State.hold_setHold_group]
    by_cases same : h = g
    · subst same; simp [move]
    · simp [same]
  · rw [if_neg falls]
    split
    · next counted =>
      obtain ⟨rfl, move⟩ := counted
      have rests : (s.hold h).left = 0 := by simpa [Hold.falls, move] using falls
      generalize s.hold h = v at rests
      cases v
      simp_all
    · rfl

theorem State.countHold_eq (s : State) (g : HoldGroup) (moving : Bool) :
    s.countHold g moving = { s with holds := (s.countHold g moving).holds } := by
  unfold State.countHold
  split <;> rfl

/-! ## The stops -/

theorem groupOf_eq_blade_iff (c : ChanId) : groupOf c = .blade ↔ c = 2 := by
  unfold groupOf
  split <;> simp [*]

theorem State.chan_stopMotion (s : State) (c : ChanId) : s.stopMotion.chan c =
    if groupOf c ≠ .motion ∨ (s.chan c).state = .off then s.chan c else { s.chan c with target := 0 } := by
  have work : LocalWork (fun s c => if groupOf c = .motion then s.setChan c { s.chan c with target := 0 } else s) :=
    .ite (fun _ _ _ _ => Iff.rfl) (.set (fun _ _ _ h => by rw [h.chan])) .id
  rw [State.stopMotion, (State.onEnabled_agrees work s c).chan]
  by_cases off : (s.chan c).state = .off
  · simp [off]
  · by_cases member : groupOf c = .motion <;> simp [off, member]

theorem State.counter_zeroDrive (s : State) (c : ChanId) (k : UnitId) :
    (s.zeroDrive c).counter k = if unitOf c = some k then (s.counter k).atRest else s.counter k := by
  rw [State.zeroDrive, State.counter_recompute_of_ramped_zero (by rw [State.chan_setChan_self])]
  rfl

theorem State.chan_zeroDrive_ne (s : State) {c d : ChanId} (h : d ≠ c) : (s.zeroDrive c).chan d = s.chan d :=
  (LocalWork.zeroDrive.agreesOff s c d (Ne.symm h)).chan

theorem State.chan_stopBlade (s : State) (c : ChanId) : s.stopBlade.chan c =
    if groupOf c ≠ .blade ∨ (s.chan c).state = .off then s.chan c
    else { s.chan c with target := 0, ramped := 0, mag := 0, nextOn := 0, brakeHeld := true } := by
  simp only [ne_eq, groupOf_eq_blade_iff]
  by_cases off : (s.chan 2).state = .off
  · rw [State.stopBlade, if_pos off]
    by_cases blade : c = 2
    · subst blade; simp [off]
    · simp [blade]
  · rw [State.stopBlade, if_neg off, State.chan_setChan]
    by_cases blade : c = 2
    · subst blade
      simp [off, State.chan_zeroDrive_self]
    · rw [if_neg (Ne.symm blade), if_pos (Or.inl blade), State.chan_zeroDrive_ne s blade]

theorem State.counter_stopBlade (s : State) (k : UnitId) : s.stopBlade.counter k =
    if k = 2 ∧ (s.chan 2).state ≠ .off then (s.counter k).atRest else s.counter k := by
  have unit : unitOf 2 = some k ↔ k = 2 := by revert k; decide
  by_cases off : (s.chan 2).state = .off
  · rw [State.stopBlade, if_pos off, if_neg (by simp [off])]
  · rw [State.stopBlade, if_neg off]
    have set : ((s.zeroDrive 2).setChan 2 { (s.zeroDrive 2).chan 2 with brakeHeld := true }).counter k =
        (s.zeroDrive 2).counter k := rfl
    rw [set, State.counter_zeroDrive]
    simp only [unit, off, ne_eq, not_false_eq_true, and_true]

/-! ## The expiry -/

/-- What stops in a group whose hold runs out (R99). -/
def State.stopGroup (s : State) : HoldGroup → State
  | .motion => s.stopMotion
  | .blade => s.stopBlade

theorem State.expireHold_eq_post (s : State) (g : HoldGroup) : s.expireHold g =
    (s.stopGroup g).advanceEpoch.post .holdExpired (groupIndex g).val (BitVec.ofNat 16 (groupIndex g).val) := by
  cases g <;> rfl

theorem State.stopGroup_eq (s : State) (g : HoldGroup) : s.stopGroup g =
    { s with chans := (s.stopGroup g).chans, counters := (s.stopGroup g).counters } := by
  cases g with
  | motion =>
    have frame := s.stopMotion_frame
    simp only [State.stopGroup]
    generalize s.stopMotion = u at frame ⊢
    cases u
    simp_all
  | blade =>
    simp only [State.stopGroup, State.stopBlade]
    split
    · rfl
    · have frame := s.zeroDrive_frame 2
      generalize s.zeroDrive 2 = u at frame ⊢
      cases u
      simp_all [State.setChan]

theorem State.chan_expireHold (s : State) (g : HoldGroup) (c : ChanId) : (s.expireHold g).chan c =
    if groupOf c ≠ g ∨ (s.chan c).state = .off then s.chan c
    else if g = .motion then { s.chan c with target := 0 }
    else { s.chan c with target := 0, ramped := 0, mag := 0, nextOn := 0, brakeHeld := true } := by
  have late : (s.expireHold g).chan c = (s.stopGroup g).chan c := by
    rw [State.expireHold_eq_post]
    generalize s.stopGroup g = t
    rfl
  rw [late]
  cases g with
  | motion => exact s.chan_stopMotion c
  | blade => exact s.chan_stopBlade c

theorem State.counter_expireHold (s : State) (g : HoldGroup) (k : UnitId) : (s.expireHold g).counter k =
    if g = .blade ∧ k = 2 ∧ (s.chan 2).state ≠ .off then (s.counter k).atRest else s.counter k := by
  have late : (s.expireHold g).counter k = (s.stopGroup g).counter k := by
    rw [State.expireHold_eq_post]
    generalize s.stopGroup g = t
    rfl
  rw [late]
  cases g with
  | motion => simp [State.stopGroup, State.counter]
  | blade =>
    rw [State.stopGroup, State.counter_stopBlade]
    simp

/-- The code of a group in its event (R170). -/
theorem groupIndex_val (g : HoldGroup) : (groupIndex g).val = if g = .motion then 0 else 1 := by cases g <;> rfl

theorem State.expireHold_eq (s : State) (g : HoldGroup) : s.expireHold g = { s with
    chans := (s.expireHold g).chans, counters := (s.expireHold g).counters, epoch := s.epoch + 1
    out := s.out.offer
      { kind := .holdExpired, source := if g = .motion then 0 else 1, count := 1, overflow := false, epoch := s.epoch + 1
        stamp := s.now, detail := BitVec.ofNat 16 (if g = .motion then 0 else 1) } } := by
  rw [State.expireHold_eq_post, ← groupIndex_val, s.stopGroup_eq g]
  generalize (s.stopGroup g).chans = chans
  generalize (s.stopGroup g).counters = counters
  rfl

end Sys2Proof.Machine
end

section
/-! O35: a hold expiry; the ramp tick at one channel (R99, R106, R107, R91, R92). -/

namespace Sys2Proof.Machine

theorem State.chan_countHold (s : State) (g : HoldGroup) (moving : Bool) (c : ChanId) :
    (s.countHold g moving).chan c = s.chan c := by simp [State.chan]

theorem State.counter_countHold (s : State) (g : HoldGroup) (moving : Bool) (k : UnitId) :
    (s.countHold g moving).counter k = s.counter k := by simp [State.counter]

theorem State.hold_expireHold (s : State) (g h : HoldGroup) : (s.expireHold g).hold h = s.hold h := by
  simp [State.hold]

/-- Settles O35: the timer at 1 of a moving group falls to 0, and the expiry follows; else nothing. -/
theorem holdExpiryStopsGroup : Obligations.HoldExpiryStopsGroup := by
  unfold Obligations.HoldExpiryStopsGroup
  intro s g hn moving code
  have row : exec (.holdExpiry g) s = .next (s.holdRunsOut g) := State.live_of_nrst hn _
  have expires : (s.hold g).expires (s.groupMoving g) = true ↔ moving ∧ (s.hold g).left = 1 := by
    rw [Hold.expires_iff, State.groupMoving_iff]
  rw [row, State.holdRunsOut]
  refine ⟨fun move one => ?_, fun otherwise => ?_⟩
  · rw [if_pos (expires.2 ⟨move, one⟩)]
    refine ⟨_, rfl, ?_, fun h => ?_, fun c => ?_, fun k => ?_⟩
    · have counted := s.countHold_eq g true
      have expired := (s.countHold g true).expireHold_eq g
      have holds : ((s.countHold g true).expireHold g).holds = (s.countHold g true).holds := by simp
      generalize (s.countHold g true).expireHold g = u at expired holds ⊢
      generalize s.countHold g true = t at counted expired holds
      rw [← holds] at counted
      rw [counted] at expired
      exact expired
    · rw [State.hold_expireHold, State.hold_countHold]
      by_cases same : h = g
      · subst same; simp [one]
      · simp [same]
    · rw [State.chan_expireHold, State.chan_countHold]
    · rw [State.counter_expireHold, State.counter_countHold, State.chan_countHold]
  · rw [if_neg (mt expires.1 otherwise)]

/-! ## The ramp tick at one channel -/

/-- R after the ramp step of a tick. -/
def State.rampedLevel (s : State) (c : ChanId) : Int := rampStep (s.chan c).target (s.chan c).ramped (s.effSlew c)

/-- A channel after its ramp step, recomputed if R moved. -/
def State.steppedChannel (s : State) (c : ChanId) : Channel :=
  if s.rampedLevel c = (s.chan c).ramped then s.chan c
  else s.formed c { s.chan c with ramped := s.rampedLevel c }

theorem State.chan_rampChannel_self (s : State) (c : ChanId) : (s.rampChannel c).chan c = s.steppedChannel c := by
  unfold State.rampChannel State.steppedChannel State.rampedLevel
  dsimp only
  split
  · rfl
  · rw [State.chan_recompute_self, State.chan_setChan_self, State.formed_setChan]

theorem State.counter_rampChannel_own (s : State) (k : UnitId) : (s.rampChannel (chanOf k)).counter k =
    if s.rampedLevel (chanOf k) = (s.chan (chanOf k)).ramped then s.counter k
    else (s.counter k).handed (s.chan (chanOf k)).mag (s.steppedChannel (chanOf k)).mag s.now := by
  have own : unitOf (chanOf k) = some k := unitOf_eq_some_iff.2 rfl
  unfold State.rampChannel State.steppedChannel State.rampedLevel
  dsimp only
  split
  · rfl
  · rw [State.counter_recompute, if_pos own, State.chan_setChan_self, State.formed_setChan]
    rfl

theorem State.chan_tickChannel_self (s : State) (c : ChanId) : (s.tickChannel c).chan c =
    if (s.chan c).state = .run ∨ (s.chan c).state = .dwell then
      { s.steppedChannel c with state := (s.steppedChannel c).tickState c }
    else s.chan c := by
  rw [State.tickChannel_eq]
  split
  · rw [State.decideState, State.chan_setChan_self, State.chan_rampChannel_self]
  · rfl

theorem State.counter_tickChannel_own (s : State) (k : UnitId) : (s.tickChannel (chanOf k)).counter k =
    if (s.chan (chanOf k)).state = .run ∨ (s.chan (chanOf k)).state = .dwell then
      if s.rampedLevel (chanOf k) = (s.chan (chanOf k)).ramped then s.counter k
      else (s.counter k).handed (s.chan (chanOf k)).mag (s.steppedChannel (chanOf k)).mag s.now
    else s.counter k := by
  rw [State.tickChannel_eq]
  split
  · exact s.counter_rampChannel_own k
  · rfl

theorem State.steppedChannel_fields (s : State) (c : ChanId) :
    (s.steppedChannel c).state = (s.chan c).state ∧ (s.steppedChannel c).target = (s.chan c).target ∧
      (s.steppedChannel c).direction = (s.chan c).direction ∧ (s.steppedChannel c).ramped = s.rampedLevel c := by
  unfold State.steppedChannel
  split
  · next same => exact ⟨rfl, rfl, rfl, same.symm⟩
  · exact ⟨rfl, rfl, rfl, rfl⟩

theorem signDiffers_iff (ramped : Int) (dir : Direction) :
    signDiffers ramped dir = true ↔ dir = .fwd ∧ ramped < 0 ∨ dir = .rev ∧ 0 < ramped := by
  cases dir <;> simp [signDiffers]

theorem Channel.tickState_eq {v : Channel} {c : ChanId} (h : v.state = .run ∨ v.state = .dwell) : v.tickState c =
    if v.state = .dwell then .dwell
    else if v.target = 0 ∧ v.ramped = 0 then .idle
    else if c ≠ 2 ∧ (v.direction = .fwd ∧ v.ramped < 0 ∨ v.direction = .rev ∧ 0 < v.ramped) then .dwell
    else .run := by
  rcases h with h | h
  · simp only [Channel.tickState, h, signDiffers_iff, reduceCtorEq, if_false]
  · simp only [Channel.tickState, h, if_true]

theorem State.tickState_steppedChannel {s : State} {c : ChanId} (h : (s.chan c).state = .run ∨ (s.chan c).state = .dwell) :
    (s.steppedChannel c).tickState c =
      if (s.chan c).state = .dwell then .dwell
      else if (s.chan c).target = 0 ∧ s.rampedLevel c = 0 then .idle
      else if c ≠ 2 ∧ ((s.chan c).direction = .fwd ∧ s.rampedLevel c < 0 ∨
        (s.chan c).direction = .rev ∧ 0 < s.rampedLevel c) then .dwell
      else .run := by
  obtain ⟨state, target, direction, ramped⟩ := s.steppedChannel_fields c
  have moving : (s.steppedChannel c).state = .run ∨ (s.steppedChannel c).state = .dwell := by rw [state]; exact h
  rw [Channel.tickState_eq moving, state, target, direction, ramped]

end Sys2Proof.Machine
end

section
/-! O34: the ramp tick (R106, R98, R99). -/

namespace Sys2Proof.Machine

theorem State.tickChannel_eq_drive (s : State) (c : ChanId) :
    s.tickChannel c = { s with chans := (s.tickChannel c).chans, counters := (s.tickChannel c).counters } := by
  have frame := s.tickChannel_frame c
  generalize s.tickChannel c = u at frame ⊢
  cases u
  simp_all

/-- The work of every channel and the count of both timers, before an expiry. -/
def State.tickedDrive (s : State) : State :=
  (allChans.foldl State.tickChannel s).countHolds (s.groupMoving .motion) (s.groupMoving .blade)

theorem State.tickedDrive_eq (s : State) : s.tickedDrive =
    { s with chans := s.tickedDrive.chans, holds := s.tickedDrive.holds, counters := s.tickedDrive.counters } := by
  have ticked := State.foldl_eq_drive State.tickChannel_eq_drive allChans s
  rw [State.tickedDrive, State.countHolds]
  generalize allChans.foldl State.tickChannel s = t at ticked ⊢
  rw [State.countHold_eq (t.countHold _ _), State.countHold_eq t]
  generalize ((t.countHold _ _).countHold _ _).holds = holds
  rw [ticked]

theorem State.chan_tickedDrive (s : State) (c : ChanId) : s.tickedDrive.chan c = (s.tickChannel c).chan c := by
  rw [State.tickedDrive, State.countHolds, State.chan_countHold, State.chan_countHold]
  exact (LocalWork.tickChannel.pass s c).chan

theorem State.counter_tickedDrive (s : State) (k : UnitId) :
    s.tickedDrive.counter k = (s.tickChannel (chanOf k)).counter k := by
  rw [State.tickedDrive, State.countHolds, State.counter_countHold, State.counter_countHold]
  exact (LocalWork.tickChannel.pass s (chanOf k)).counter k rfl

theorem State.hold_tickedDrive (s : State) (g : HoldGroup) : s.tickedDrive.hold g =
    if s.groupMoving g = true then { s.hold g with left := (s.hold g).left - 1 } else s.hold g := by
  have ticked : (allChans.foldl State.tickChannel s).hold g = s.hold g := by
    rw [State.foldl_eq_drive State.tickChannel_eq_drive]
    rfl
  rw [State.tickedDrive, State.countHolds, State.hold_countHold, State.hold_countHold, ticked]
  cases g <;> simp

theorem State.rampTick_eq (s : State) : s.rampTick = s.tickedDrive.expireHolds
    ((s.hold .motion).expires (s.groupMoving .motion)) ((s.hold .blade).expires (s.groupMoving .blade)) := rfl

theorem State.expireHolds_both (s : State) :
    s.expireHolds true true =
        (State.expireHold { s with drawn := s.drawn + 1 } .motion).expireHold .blade ∨
      s.expireHolds true true =
        (State.expireHold { s with drawn := s.drawn + 1 } .blade).expireHold .motion := by
  simp only [State.expireHolds]
  split
  · exact Or.inl rfl
  · exact Or.inr rfl

/-- What an expiry does, as the obligations state it. -/
def State.ExpiresTo (now : Stamp) (g : HoldGroup) (a b : State) : Prop :=
  b = { a with
    chans := b.chans, counters := b.counters, epoch := a.epoch + 1
    out := a.out.offer
      { kind := .holdExpired, source := if g = .motion then 0 else 1, count := 1, overflow := false, epoch := a.epoch + 1
        stamp := now, detail := BitVec.ofNat 16 (if g = .motion then 0 else 1) } } ∧
  (∀ c : ChanId, b.chan c =
    if groupOf c ≠ g ∨ (a.chan c).state = .off then a.chan c
    else if g = .motion then { a.chan c with target := 0 }
    else { a.chan c with target := 0, ramped := 0, mag := 0, nextOn := 0, brakeHeld := true }) ∧
  (∀ k : UnitId, b.counter k =
    if g = .blade ∧ k = 2 ∧ (a.chan 2).state ≠ .off then (a.counter k).atRest else a.counter k)

theorem State.expiresTo_expireHold {s : State} {now : Stamp} (h : s.now = now) (g : HoldGroup) :
    State.ExpiresTo now g s (s.expireHold g) :=
  ⟨h ▸ s.expireHold_eq g, s.chan_expireHold g, s.counter_expireHold g⟩

/-- Settles O34: the work of each channel, the timers, then the expiries that fall. -/
theorem rampTickWork : Obligations.RampTickWork := by
  unfold Obligations.RampTickWork
  intro s hn moving expires ramps r stepped expired
  have row : exec .rampTick s = .next s.rampTick := State.live_of_nrst hn _
  have falls (g : HoldGroup) : (s.hold g).expires (s.groupMoving g) = true ↔ expires g := by
    rw [Hold.expires_iff, State.groupMoving_iff]
  have stays {g : HoldGroup} (h : ¬ expires g) : (s.hold g).expires (s.groupMoving g) = false := by
    rw [← Bool.not_eq_true, falls]
    exact h
  have frame := s.tickedDrive_eq
  have now : s.tickedDrive.now = s.now := by rw [frame]; rfl
  refine ⟨s.tickedDrive, s.rampTick, row, frame, fun g => ?_, fun c => ⟨fun still => ?_, fun ramp => ?_⟩,
    fun k => ⟨fun still => ?_, fun ramp moved => ?_⟩, fun m b => ?_, fun m b => ?_, fun m b => ?_, fun m b => ?_⟩
  · rw [State.hold_tickedDrive]
    refine ⟨by split <;> rfl, fun move => ?_, fun rest => ?_⟩
    · rw [if_pos ((s.groupMoving_iff g).2 move)]
    · rw [if_neg (mt (s.groupMoving_iff g).1 rest)]
  · rw [State.chan_tickedDrive, State.chan_tickChannel_self, if_neg still]
  · rw [State.chan_tickedDrive, State.chan_tickChannel_self, if_pos ramp, State.tickState_steppedChannel ramp]
    rfl
  · rw [State.counter_tickedDrive, State.counter_tickChannel_own]
    rcases still with still | same
    · rw [if_neg still]
    · rw [if_pos (show s.rampedLevel (chanOf k) = _ from same), ite_self]
  · rw [State.counter_tickedDrive, State.counter_tickChannel_own, if_pos ramp,
      if_neg (show ¬ s.rampedLevel (chanOf k) = _ from moved)]
    rfl
  · rw [State.rampTick_eq, stays m, stays b]
    rfl
  · rw [State.rampTick_eq, (falls .motion).2 m, stays b]
    exact State.expiresTo_expireHold now .motion
  · rw [State.rampTick_eq, stays m, (falls .blade).2 b]
    exact State.expiresTo_expireHold now .blade
  · rw [State.rampTick_eq, (falls .motion).2 m, (falls .blade).2 b]
    have drawn : ({ s.tickedDrive with drawn := s.tickedDrive.drawn + 1 } : State).now = s.now := now
    have later (t : State) (g : HoldGroup) (h : t.now = s.now) : (t.expireHold g).now = s.now := by
      rw [← h]
      simp [State.now]
    rcases s.tickedDrive.expireHolds_both with e | e <;> rw [e]
    · exact ⟨_, Or.inl ⟨State.expiresTo_expireHold drawn .motion, State.expiresTo_expireHold (later _ _ drawn) .blade⟩⟩
    · exact ⟨_, Or.inr ⟨State.expiresTo_expireHold drawn .blade, State.expiresTo_expireHold (later _ _ drawn) .motion⟩⟩

end Sys2Proof.Machine
end

section
/-! O36: the period boundary (R87, R93). -/

namespace Sys2Proof.Machine

/-! ## The pending period -/

theorem State.takePeriod_of_none {s : State} {c : ChanId} (h : (s.chan c).pendingPeriod = none) : s.takePeriod c = s := by
  simp [State.takePeriod, h]

theorem State.takePeriod_of_some {s : State} {c : ChanId} {p : Nat} (h : (s.chan c).pendingPeriod = some p) :
    s.takePeriod c = (s.setChan c { s.chan c with period := p, pendingPeriod := none }).recompute c := by
  simp [State.takePeriod, h]

/-- A channel with its pending period in force. -/
def Channel.periodTaken (v : Channel) : Channel :=
  { v with period := v.pendingPeriod.getD v.period, pendingPeriod := none }

theorem State.sameButMagnitude_takePeriod (s : State) (c : ChanId) :
    ((s.takePeriod c).chan c).sameButMagnitude (s.chan c).periodTaken := by
  cases h : (s.chan c).pendingPeriod with
  | none =>
    rw [State.takePeriod_of_none h]
    generalize s.chan c = v at h
    cases v
    simp_all [Channel.periodTaken]
  | some p =>
    rw [State.takePeriod_of_some h, State.chan_recompute_self, State.chan_setChan_self, Channel.periodTaken, h]
    exact rfl

theorem State.counter_takePeriod (s : State) (c : ChanId) (k : UnitId) :
    ((s.takePeriod c).counter k).sameCounts (s.counter k) ∧
      ((s.chan c).pendingPeriod = none ∨ unitOf c ≠ some k → (s.takePeriod c).counter k = s.counter k) := by
  cases h : (s.chan c).pendingPeriod with
  | none =>
    rw [State.takePeriod_of_none h]
    exact ⟨rfl, fun _ => rfl⟩
  | some p =>
    obtain ⟨same, kept⟩ := State.counter_recompute_kept (s.setChan c { s.chan c with period := p, pendingPeriod := none }) c k
    rw [State.takePeriod_of_some h]
    exact ⟨same, fun other => kept (other.resolve_left (by simp))⟩

theorem State.freshMagnitude_takePeriod {s : State} {c : ChanId} (h : (s.chan c).pendingPeriod ≠ none) :
    (s.takePeriod c).freshMagnitude c := by
  obtain ⟨p, hp⟩ := Option.ne_none_iff_exists'.1 h
  rw [State.takePeriod_of_some hp]
  exact State.freshMagnitude_recompute _ c

/-! ## The decision and the load -/

/-- A channel as a boundary leaves it, once a pending period is in force. -/
def Channel.atBoundary (v : Channel) : Channel := v.decideDwell.load

theorem Channel.atBoundary_eq (v : Channel) : v.atBoundary =
    { v with
      state := v.atBoundary.state, direction := v.atBoundary.direction, activeOn := v.atBoundary.activeOn
      pulsed := decide (v.atBoundary.activeOn ≠ 0), phase := 0 } := by
  obtain ⟨state, direction, decided, -⟩ := v.decideDwell_eq
  rw [Channel.atBoundary, decided, Channel.load]
  simp only [bne_eq_decide_ne]

theorem Channel.atBoundary_of_stays {v : Channel} (dwell : v.state = .dwell) (against : signDiffers v.ramped v.direction = true)
    (pulsed : v.pulsed = true) :
    v.atBoundary.state = .dwell ∧ v.atBoundary.direction = v.direction ∧ v.atBoundary.activeOn = 0 := by
  have decided : v.decideDwell = v := by simp [Channel.decideDwell, Channel.dwellDecision, dwell, against, pulsed]
  rw [Channel.atBoundary, decided]
  simp [Channel.load, dwell]

theorem Direction.flip_ne (d : Direction) : d.flip ≠ d := by cases d <;> decide

theorem Channel.atBoundary_of_flips {v : Channel} (dwell : v.state = .dwell) (against : signDiffers v.ramped v.direction = true)
    (quiet : v.pulsed = false) :
    v.atBoundary.state = .run ∧ v.atBoundary.direction ≠ v.direction ∧ v.atBoundary.activeOn = v.atBoundary.nextOn := by
  have decided : v.decideDwell = { v with state := .run, direction := v.direction.flip } := by
    simp [Channel.decideDwell, Channel.dwellDecision, dwell, against, quiet]
  rw [Channel.atBoundary, decided]
  exact ⟨rfl, v.direction.flip_ne, rfl⟩

theorem Channel.atBoundary_of_other {v : Channel} (h : ¬ (v.state = .dwell ∧ signDiffers v.ramped v.direction = true)) :
    v.atBoundary.direction = v.direction ∧ v.atBoundary.activeOn = v.atBoundary.nextOn ∧
      v.atBoundary.state = if v.state = .dwell then .run else v.state := by
  by_cases dwell : v.state = .dwell
  · have agrees : signDiffers v.ramped v.direction = false := by simpa [dwell] using h
    have decided : v.decideDwell = { v with state := .run } := by
      simp [Channel.decideDwell, Channel.dwellDecision, dwell, agrees]
    rw [Channel.atBoundary, decided]
    simp [Channel.load, dwell]
  · have decided : v.decideDwell = v := by simp [Channel.decideDwell, dwell]
    rw [Channel.atBoundary, decided]
    simp [Channel.load, dwell]

/-! ## The boundary -/

theorem State.boundary_eq_drive (s : State) (c : ChanId) :
    s.boundary c = { s with chans := (s.boundary c).chans, counters := (s.boundary c).counters } := by
  have frame := s.boundary_frame c
  generalize s.boundary c = u at frame ⊢
  cases u
  simp_all

variable {s : State} {c : ChanId}

theorem State.chan_boundary_self (on : (s.chan c).state ≠ .off) :
    (s.boundary c).chan c = ((s.takePeriod c).chan c).atBoundary := by
  rw [State.boundary_of_enabled on, State.chan_setChan_self, Channel.atBoundary]

theorem State.chan_boundary_ne (on : (s.chan c).state ≠ .off) {d : ChanId} (h : d ≠ c) :
    (s.boundary c).chan d = s.chan d := by
  rw [State.boundary_of_enabled on, State.chan_setChan_ne _ _ _ _ (Ne.symm h)]
  exact (s.agreesOff_takePeriod c d (Ne.symm h)).chan

theorem State.counters_boundary (on : (s.chan c).state ≠ .off) : (s.boundary c).counters = (s.takePeriod c).counters := by
  rw [State.boundary_of_enabled on]
  rfl

theorem State.freshMagnitude_setAtBoundary {t : State} (fresh : t.freshMagnitude c) :
    (t.setChan c (t.chan c).atBoundary).freshMagnitude c := by
  obtain ⟨mag, next⟩ := fresh
  have form := (t.chan c).atBoundary_eq
  generalize (t.chan c).atBoundary = w at form ⊢
  simp only [State.freshMagnitude, State.chan_setChan_self, State.effMax]
  rw [form]
  exact ⟨mag, next⟩

end Sys2Proof.Machine
end

section
/-! O36, assembled. -/

namespace Sys2Proof.Machine

/-- Settles O36: the pending period, the decision by the three ways it can fall, and the load. -/
theorem periodBoundary : Obligations.PeriodBoundary := by
  unfold Obligations.PeriodBoundary
  intro s c hn
  have row : exec (.periodBoundary c) s = .next (s.boundary c) := State.live_of_nrst hn (fun s => s.boundary c)
  rw [row]
  refine ⟨fun off => by rw [State.boundary, if_pos off], fun on => ?_⟩
  have taken := s.sameButMagnitude_takePeriod c
  obtain ⟨state, pulsed, direction⟩ := s.chan_takePeriod_marks c
  have ramped : ((s.takePeriod c).chan c).ramped = (s.chan c).ramped := by rw [taken]; rfl
  have chan := State.chan_boundary_self on
  have counters := State.counters_boundary on
  have form := ((s.takePeriod c).chan c).atBoundary_eq
  have against : signDiffers (s.chan c).ramped (s.chan c).direction = true ↔ _ := signDiffers_iff _ _
  refine ⟨s.boundary c, rfl, s.boundary_eq_drive c, fun d hd => State.chan_boundary_ne on hd, fun k => ?_,
    ⟨?_, fun stays => ?_, fun flips => ?_, fun notStays notFlips => ?_⟩, fun pending => ?_, fun p hp => ?_, fun unset => ?_⟩
  · rw [State.counter, counters]
    exact s.counter_takePeriod c k
  · rw [chan]
    generalize ((s.takePeriod c).chan c).atBoundary = w at form ⊢
    rw [taken] at form
    rw [form]
    exact rfl
  · obtain ⟨dwell, differs, pulse⟩ := stays
    rw [chan, ← direction]
    exact Channel.atBoundary_of_stays (state.trans dwell) (by rw [ramped, direction]; exact against.2 differs)
      (pulsed.trans pulse)
  · obtain ⟨dwell, differs, quiet⟩ := flips
    rw [chan, ← direction]
    exact Channel.atBoundary_of_flips (state.trans dwell) (by rw [ramped, direction]; exact against.2 differs)
      (pulsed.trans quiet)
  · rw [chan, ← direction, ← state]
    refine Channel.atBoundary_of_other ?_
    rw [state, ramped, direction, against]
    rintro ⟨dwell, differs⟩
    cases pulse : (s.chan c).pulsed with
    | true => exact notStays ⟨dwell, differs, pulse⟩
    | false => exact notFlips ⟨dwell, differs, pulse⟩
  · rw [State.boundary_of_enabled on]
    exact State.freshMagnitude_setAtBoundary (State.freshMagnitude_takePeriod pending)
  · rw [← State.takePeriod_of_some hp, counters, chan, form]
    exact ⟨rfl, rfl, rfl⟩
  · rw [State.takePeriod_of_none unset] at chan form
    rw [chan, form]
    exact ⟨rfl, rfl, rfl, rfl⟩

end Sys2Proof.Machine
end

section
/-! O37: a feedback delivery (R75, R76, R114 to R116). -/

namespace Sys2Proof.Machine

/-- F as a delivered value leaves it (R114). -/
def State.foldAfter (s : State) (c : ChanId) (value : Count) : Nat :=
  if s.effLimit c = 0 then 0
  else if value.toNat > s.effLimit c then
    min 1000 ((s.chan c).fold + roundDiv (s.chan c).rounding ((value.toNat - s.effLimit c) * (s.chan c).gain) 16)
  else (s.chan c).fold - (s.chan c).relax

/-- A channel with a value delivered, before the recompute. -/
def State.fedChannel (s : State) (c : ChanId) (value : Count) : Channel :=
  { s.chan c with lastFeedback := value, fold := s.foldAfter c value }

theorem State.deliver_of_off {s : State} {c : ChanId} (h : (s.chan c).state = .off) (value : Count) :
    s.deliver c value = s := if_pos h

theorem State.deliver_of_on {s : State} {c : ChanId} (h : (s.chan c).state ≠ .off) (value : Count) :
    s.deliver c value =
      if (s.chan c).fold = 0 ∧ s.foldAfter c value ≠ 0 then
        ((s.setChan c (s.fedChannel c value)).recompute c).post .limit c.val (value.setWidth 16)
      else (s.setChan c (s.fedChannel c value)).recompute c := by
  have risen : (s.chan c).fold = 0 ∧ 0 < s.foldAfter c value ↔ (s.chan c).fold = 0 ∧ s.foldAfter c value ≠ 0 := by
    rw [Nat.pos_iff_ne_zero]
  rw [State.deliver]
  simp only [h, if_false]
  exact if_congr risen rfl rfl

/-- What holds of the recomputed state and reads no outgoing queue holds after the delivery. -/
theorem State.deliver_eq_withOut {s : State} {c : ChanId} (h : (s.chan c).state ≠ .off) (value : Count) :
    s.deliver c value = { (s.setChan c (s.fedChannel c value)).recompute c with
      out := if (s.chan c).fold = 0 ∧ s.foldAfter c value ≠ 0 then s.out.offer
          { kind := .limit, source := c.val, count := 1, overflow := false, epoch := s.epoch, stamp := s.now
            detail := value.setWidth 16 }
        else s.out } := by
  rw [State.deliver_of_on h, State.recompute_eq_drive]
  generalize ((s.setChan c (s.fedChannel c value)).recompute c).chans = chans
  generalize ((s.setChan c (s.fedChannel c value)).recompute c).counters = counters
  split <;> rfl

theorem State.chan_deliver {s : State} {c : ChanId} (h : (s.chan c).state ≠ .off) (value : Count) (d : ChanId) :
    (s.deliver c value).chan d = ((s.setChan c (s.fedChannel c value)).recompute c).chan d := by
  rw [State.deliver_eq_withOut h]
  generalize (s.setChan c (s.fedChannel c value)).recompute c = t
  rfl

theorem State.counter_deliver {s : State} {c : ChanId} (h : (s.chan c).state ≠ .off) (value : Count) (k : UnitId) :
    (s.deliver c value).counter k = ((s.setChan c (s.fedChannel c value)).recompute c).counter k := by
  rw [State.deliver_eq_withOut h]
  generalize (s.setChan c (s.fedChannel c value)).recompute c = t
  rfl

theorem State.deliver_eq_drive {s : State} {c : ChanId} (h : (s.chan c).state ≠ .off) (value : Count) :
    s.deliver c value = { s with
      chans := (s.deliver c value).chans, counters := (s.deliver c value).counters
      out := if (s.chan c).fold = 0 ∧ s.foldAfter c value ≠ 0 then s.out.offer
          { kind := .limit, source := c.val, count := 1, overflow := false, epoch := s.epoch, stamp := s.now
            detail := value.setWidth 16 }
        else s.out } := by
  have delivered := State.deliver_eq_withOut h value
  have frame := (s.setChan c (s.fedChannel c value)).recompute_eq_drive c
  generalize s.deliver c value = u at delivered ⊢
  generalize (s.setChan c (s.fedChannel c value)).recompute c = t at delivered frame
  rw [delivered, frame]
  rfl

theorem State.freshMagnitude_deliver {s : State} {c : ChanId} (h : (s.chan c).state ≠ .off) (value : Count) :
    (s.deliver c value).freshMagnitude c := by
  have fresh := State.freshMagnitude_recompute (s.setChan c (s.fedChannel c value)) c
  rw [State.deliver_eq_withOut h]
  generalize (s.setChan c (s.fedChannel c value)).recompute c = t at fresh ⊢
  exact fresh

/-- Settles O37: the delivery as one recompute and, where F rose from 0, one post. -/
theorem feedbackMovesFold : Obligations.FeedbackMovesFold := by
  unfold Obligations.FeedbackMovesFold
  refine ⟨?_, fun s f values value h => ?_, fun _ _ => rfl⟩
  · intro s c value v limit fold
    refine ⟨fun off => State.deliver_of_off off value, ?_⟩
    intro on u
    refine ⟨State.deliver_eq_drive on value, fun d hd => ?_, State.freshMagnitude_deliver on value, ?_,
      State.deliver_of_on on value, fun k => ?_⟩
    · exact (s.agreesOff_deliver c value d (Ne.symm hd)).chan
    · have chan : u.chan c = _ := State.chan_deliver on value c
      rw [chan, State.chan_recompute_self, State.chan_setChan_self]
      exact rfl
    · have counter : u.counter k = _ := State.counter_deliver on value k
      rw [counter]
      exact State.counter_recompute_kept (s.setChan c (s.fedChannel c value)) c k
  · simp [State.deliverRound, h]

end Sys2Proof.Machine
end

section
/-! O38: the checks of a DEFINE-ACQ payload (R8, R173, R176). -/

namespace Sys2Proof.Machine

/-! ## The fields -/

theorem unitNumber_eq_some_iff {n bound : Nat} {u : Fin bound} : unitNumber n bound = some u ↔ u.val = n := by
  unfold unitNumber
  split
  · rw [Option.some.injEq, Fin.ext_iff]
    exact eq_comm
  · next h => exact ⟨(nomatch ·), fun same => absurd u.isLt (by omega)⟩

theorem unitOrNone_eq_some_iff {n bound : Nat} {o : Option (Fin bound)} :
    unitOrNone n bound = some o ↔ o.map (fun u => u.val) = if n = 255 then none else some n := by
  unfold unitOrNone
  split
  · simp [eq_comm]
  · simp only [Option.map_eq_some_iff, unitNumber_eq_some_iff]
    exact ⟨fun ⟨u, hu, ho⟩ => ⟨u, ho.symm, hu⟩, fun ⟨u, ho, hu⟩ => ⟨u, hu, ho.symm⟩⟩

theorem exists_unitOrNone {n bound : Nat} (h : n < bound ∨ n = 255) :
    ∃ o : Option (Fin bound), o.map (fun u => u.val) = if n = 255 then none else some n := by
  by_cases unnamed : n = 255
  · exact ⟨none, by rw [if_pos unnamed]; rfl⟩
  · exact ⟨some ⟨n, h.resolve_right unnamed⟩, by rw [if_neg unnamed]; rfl⟩

theorem lt_or_of_map_unit {n bound : Nat} {o : Option (Fin bound)}
    (h : o.map (fun u => u.val) = if n = 255 then none else some n) : n < bound ∨ n = 255 := by
  by_cases unnamed : n = 255
  · exact Or.inr unnamed
  · rw [if_neg unnamed, Option.map_eq_some_iff] at h
    obtain ⟨u, -, rfl⟩ := h
    exact Or.inl u.isLt

theorem isSome_iff_of_map {α β : Type} {o : Option α} {f : α → β} {c : Prop} [Decidable c] {v : β}
    (h : o.map f = if c then none else some v) : o.isSome = true ↔ ¬ c := by
  rw [← Option.isSome_map (f := f), h]
  split <;> simp [*]

theorem waitLimitOf_eq_some_iff {n m : Nat} : waitLimitOf n = some m ↔ (n = 0 ∨ 10 ≤ n) ∧ m = n := by
  unfold waitLimitOf
  split <;> simp [*, eq_comm]

theorem elementsAt_eq_some_iff (p : List Byte) (offset n : Nat) (es : List (Fin 12)) :
    elementsAt p offset n = some es ↔ es.map (fun e => e.val) = (List.range n).map (fun i => u8 p (offset + i)) := by
  induction n generalizing offset es with
  | zero =>
    rw [elementsAt, Option.some.injEq, List.range_zero, List.map_nil, List.map_eq_nil_iff]
    exact eq_comm
  | succ n ih =>
    have bytes : (List.range (n + 1)).map (fun i => u8 p (offset + i)) =
        u8 p offset :: (List.range n).map (fun i => u8 p (offset + 1 + i)) := by
      rw [List.range_succ_eq_map, List.map_cons, List.map_map]
      congr 2
      funext i
      exact congrArg (u8 p) (by omega)
    simp only [elementsAt, Option.bind_eq_bind, Option.bind_eq_some_iff, Option.pure_def, Option.some.injEq,
      unitNumber_eq_some_iff, ih]
    rw [bytes]
    constructor
    · rintro ⟨e, first, rest, others, rfl⟩
      rw [List.map_cons, first, others]
    · intro all
      cases es with
      | nil => cases all
      | cons e rest =>
        rw [List.map_cons, List.cons.injEq] at all
        exact ⟨e, all.1, rest, all.2, rfl⟩

theorem exists_elements {l : List Nat} (h : ∀ n ∈ l, n < 12) : ∃ es : List (Fin 12), es.map (fun e => e.val) = l := by
  induction l with
  | nil => exact ⟨[], rfl⟩
  | cons n l ih =>
    obtain ⟨es, hes⟩ := ih (fun m hm => h m (List.mem_cons_of_mem n hm))
    exact ⟨⟨n, h n List.mem_cons_self⟩ :: es, by rw [List.map_cons, hes]⟩

theorem feedbackOf_eq_some_iff (p : List Byte) (count : Nat) (o : Option Feedback) :
    feedbackOf p count = some o ↔ (u8 p 9 ≠ 255 → u8 p 10 < count) ∧
      o.map (fun f => (f.channel.val, f.element)) = if u8 p 9 = 255 then none else some (u8 p 9, u8 p 10) := by
  simp only [feedbackOf, Option.bind_eq_bind, Option.bind_eq_some_iff, unitOrNone_eq_some_iff]
  by_cases unnamed : u8 p 9 = 255
  · simp [unnamed, eq_comm]
  · simp only [unnamed, if_false, Option.map_eq_some_iff, ne_eq, not_false_eq_true, forall_const, Prod.mk.injEq]
    constructor
    · rintro ⟨_, ⟨c, rfl, hc⟩, made⟩
      by_cases below : u8 p 10 < count
      · simp only [below, if_true, Option.some.injEq] at made
        exact ⟨below, _, made.symm, hc, rfl⟩
      · simp [below] at made
    · rintro ⟨below, f, rfl, hc, he⟩
      refine ⟨some f.channel, ⟨_, rfl, hc⟩, ?_⟩
      simp [← he, show f.element < count from he ▸ below]

theorem windowOf_eq_some_iff (p : List Byte) (count : Nat) (o : Option Window) :
    windowOf p count = some o ↔
      ((u8 p 3).testBit 2 = true → u8 p 11 < count ∧ u16 p 12 ≤ u16 p 14 ∧ u16 p 14 ≤ 4095) ∧
      o = if (u8 p 3).testBit 2 = true then
        some { element := u8 p 11, low := u16 p 12, high := u16 p 14, trip := (u8 p 3).testBit 3 } else none := by
  unfold windowOf
  cases flag : (u8 p 3).testBit 2 with
  | false => simp [eq_comm]
  | true =>
    by_cases fits : u8 p 11 < count ∧ u16 p 12 ≤ u16 p 14 ∧ u16 p 14 ≤ 4095
    · simp [fits, eq_comm]
    · simp [fits]

end Sys2Proof.Machine
end

section
/-! O38, assembled. -/

namespace Sys2Proof.Machine

theorem Definition.ofPayload_eq_some_iff (p : List Byte) (d : Definition) :
    Definition.ofPayload p = some d ↔
      u8 p 3 < 16 ∧ unitNumber (u8 p 1) 8 = some d.level ∧ unitOrNone (u8 p 2) 12 = some d.anchor ∧
      waitLimitOf (u16 p 6) = some d.waitLimit ∧ unitOrNone (u8 p 8) 8 = some d.ring ∧
      (1 ≤ u8 p 16 ∧ u8 p 16 ≤ 8) ∧ elementsAt p 17 (u8 p 16) = some d.elements ∧
      feedbackOf p (u8 p 16) = some d.feedback ∧ windowOf p (u8 p 16) = some d.window ∧
      d.repeating = (u8 p 3).testBit 0 ∧ d.rounds = u16 p 4 ∧ d.atomic = (u8 p 3).testBit 1 ∧ d.sound = true := by
  unfold Definition.ofPayload
  split
  · next h => exact ⟨(nomatch ·), fun h' => absurd h'.1 (by omega)⟩
  · next h =>
    simp only [Option.bind_eq_bind, Option.bind_eq_some_iff, inRange_eq_some]
    constructor
    · rintro ⟨_, level, _, anchor, _, limit, _, ring, _, ⟨rfl, count⟩, _, elements, _, feedback, _, window, made⟩
      split at made
      · next sound =>
        cases made
        exact ⟨by omega, level, anchor, limit, ring, count, elements, feedback, window, rfl, rfl, rfl, sound⟩
      · cases made
    · rintro ⟨-, level, anchor, limit, ring, count, elements, feedback, window, repeating, rounds, atomic, sound⟩
      refine ⟨_, level, _, anchor, _, limit, _, ring, _, ⟨rfl, count⟩, _, elements, _, feedback, _, window, ?_⟩
      rw [← repeating, ← rounds, ← atomic]
      exact if_pos sound

theorem Definition.sound_iff (d : Definition) : d.sound = true ↔
    (d.ring.isSome = true ∨ d.feedback.isSome = true ∨ d.window.isSome = true) ∧
      (d.repeating = true → d.anchor.isSome = true) := by
  cases again : d.repeating <;> cases against : d.anchor <;>
    simp [Definition.sound, Definition.hasDestination, or_assoc, again, against]

/-- Settles O38: each field's check, and the two checks of the whole. -/
theorem definitionPayloadIsChecked : Obligations.DefinitionPayloadIsChecked := by
  unfold Obligations.DefinitionPayloadIsChecked
  intro p flag count
  have fields (d : Definition) : Definition.ofPayload p = some d ↔ _ := Definition.ofPayload_eq_some_iff p d
  simp only [unitNumber_eq_some_iff, unitOrNone_eq_some_iff, waitLimitOf_eq_some_iff, elementsAt_eq_some_iff,
    feedbackOf_eq_some_iff, windowOf_eq_some_iff, Definition.sound_iff] at fields
  have windowed {w : Option Window} {v : Window} (h : w = if flag 2 = true then some v else none) :
      w.isSome = true ↔ flag 2 = true := by
    rw [h]
    split <;> simp [*]
  refine ⟨⟨fun passed => ?_, ?_⟩, fun d hd => ?_⟩
  · obtain ⟨d, hd⟩ := Option.isSome_iff_exists.1 passed
    obtain ⟨flags, level, anchor, ⟨limit, -⟩, ring, ⟨low, high⟩, elements, ⟨element, feedback⟩, ⟨bounds, window⟩,
      repeating, -, -, destination, against⟩ := (fields d).1 hd
    refine ⟨level ▸ d.level.isLt, lt_or_of_map_unit anchor, flags, limit, lt_or_of_map_unit ring, ?_, bounds, low, high,
      fun i hi => ?_, ?_, fun again => ?_⟩
    · by_cases unnamed : u8 p 9 = 255
      · exact Or.inl unnamed
      · rw [if_neg unnamed, Option.map_eq_some_iff] at feedback
        obtain ⟨f, -, channel⟩ := feedback
        exact Or.inr ⟨(Prod.mk.inj channel).1 ▸ f.channel.isLt, element unnamed⟩
    · have byte : u8 p (17 + i.val) ∈ d.elements.map (fun e => e.val) := by
        rw [elements]
        exact List.mem_map_of_mem (List.mem_range.2 hi)
      obtain ⟨e, -, he⟩ := List.mem_map.1 byte
      exact he ▸ e.isLt
    · rwa [isSome_iff_of_map ring, isSome_iff_of_map feedback, windowed window] at destination
    · exact (isSome_iff_of_map anchor).1 (against (repeating ▸ again))
  · rintro ⟨level, anchor, flags, limit, ring, feedback, bounds, low, high, elements, destination, again⟩
    obtain ⟨a, ha⟩ := exists_unitOrNone anchor
    obtain ⟨r, hr⟩ := exists_unitOrNone ring
    obtain ⟨es, hes⟩ : ∃ es : List (Fin 12), es.map (fun e => e.val) = (List.range count).map (fun i => u8 p (17 + i)) := by
      refine exists_elements fun n hn => ?_
      obtain ⟨i, hi, rfl⟩ := List.mem_map.1 hn
      exact elements ⟨i, lt_of_lt_of_le (List.mem_range.1 hi) high⟩ (List.mem_range.1 hi)
    obtain ⟨f, hf⟩ : ∃ f : Option Feedback, f.map (fun f => (f.channel.val, f.element)) =
        if u8 p 9 = 255 then none else some (u8 p 9, u8 p 10) := by
      by_cases unnamed : u8 p 9 = 255
      · exact ⟨none, by rw [if_pos unnamed]; rfl⟩
      · exact ⟨some { channel := ⟨u8 p 9, (feedback.resolve_left unnamed).1⟩, element := u8 p 10 }, by rw [if_neg unnamed]; rfl⟩
    refine Option.isSome_iff_exists.2 ⟨
      { level := ⟨u8 p 1, level⟩, anchor := a, elements := es, repeating := flag 0, rounds := u16 p 4
        waitLimit := u16 p 6, atomic := flag 1, ring := r, feedback := f
        window := if flag 2 = true then
          some { element := u8 p 11, low := u16 p 12, high := u16 p 14, trip := flag 3 } else none }, (fields _).2
      ⟨flags, rfl, ha, ⟨limit, rfl⟩, hr, ⟨low, high⟩, hes, ⟨fun named => (feedback.resolve_left named).2, hf⟩, ⟨bounds, rfl⟩,
        rfl, rfl, rfl, ?_, fun repeating => (isSome_iff_of_map ha).2 (again repeating)⟩⟩
    exact (or_congr (isSome_iff_of_map hr) (or_congr (isSome_iff_of_map hf) (windowed rfl))).2 destination
  · obtain ⟨-, level, anchor, ⟨-, limit⟩, ring, -, elements, ⟨-, feedback⟩, ⟨-, window⟩, repeating, rounds, atomic, -⟩ :=
      (fields d).1 hd
    exact ⟨level, anchor, repeating, atomic, rounds, limit, ring, feedback, window, elements⟩

end Sys2Proof.Machine
end

section
/-! The requests to a slot: DEFINE-ACQ, RELEASE-ACQ, CANCEL-ACQ and ARM-ACQ (R8, R9, R15 to R18). -/

namespace Sys2Proof.Machine

theorem slotReport_byteAt {p : List Byte} {x : SlotId} (hx : u8 p 0 = x.val) (st : SlotState) :
    slotReport x st = [byteAt p 0, BitVec.ofNat 8 st.code] := by
  rw [← ofNat_u8, hx]
  rfl

theorem State.setSlot_setSlot (s : State) (x : SlotId) (v v' : Slot) : (s.setSlot x v).setSlot x v' = s.setSlot x v' := by
  simp [State.setSlot, Table.put]

/-! ## DEFINE-ACQ -/

section
variable {p : List Byte} {x : SlotId} (hx : u8 p 0 = x.val)
include hx

theorem takeDefineAcq_busy {s : State} (h : (s.slot x).state.inUse = true) :
    takeDefineAcq p s = s.refuse .busy [byteAt p 0, BitVec.ofNat 8 (s.slot x).state.code] := by
  simp [takeDefineAcq, unitNumber_val hx, h, slotReport_byteAt hx]

theorem takeDefineAcq_badArg {s : State} (h : (s.slot x).state.inUse = false) (bad : Definition.ofPayload p = none) :
    takeDefineAcq p s = s.refuse .badArg [byteAt p 0, BitVec.ofNat 8 (s.slot x).state.code] := by
  simp [takeDefineAcq, unitNumber_val hx, h, bad, slotReport_byteAt hx]

theorem takeDefineAcq_accepted {s : State} (h : (s.slot x).state.inUse = false) {d : Definition}
    (good : Definition.ofPayload p = some d) : takeDefineAcq p s =
      { state := s.setSlot x (Slot.defined d), result := .ok
        fields := [byteAt p 0, BitVec.ofNat 8 (s.slot x).state.code] } := by
  simp [takeDefineAcq, unitNumber_val hx, h, good, slotReport_byteAt hx]

end

/-- Settles O39: the state check, then the definition's. -/
theorem defineAcqWritesSlot : Obligations.DefineAcqWritesSlot := by
  unfold Obligations.DefineAcqWritesSlot
  intro s tag p x h ht hp hx found reply
  have inUse_iff : (s.seeHigh.slot x).state.inUse = found.inUse := rfl
  refine ⟨fun used => ?_, fun unused => ?_⟩
  · have inUse : (s.seeHigh.slot x).state.inUse = true := by
      rw [inUse_iff]
      rcases used with e | e | e <;> rw [e] <;> rfl
    exact exec_row_refused h .defineAcq ht hp (takeDefineAcq_busy hx inUse)
  · have inUse : (s.seeHigh.slot x).state.inUse = false := by
      rw [inUse_iff]
      rcases unused with e | e <;> rw [e] <;> rfl
    exact ⟨fun bad => exec_row_refused h .defineAcq ht hp (takeDefineAcq_badArg hx inUse bad),
      fun d good => exec_row_reply h .defineAcq ht hp (takeDefineAcq_accepted hx inUse good)⟩

/-! ## RELEASE-ACQ -/

/-- Settles O42: the number, then the state. -/
theorem releaseAcqFreesSlot : Obligations.ReleaseAcqFreesSlot := by
  unfold Obligations.ReleaseAcqFreesSlot
  intro s tag b h ht
  refine ⟨fun large => ?_, fun x hx => ⟨fun idle => ?_, fun busy => ?_⟩⟩
  · exact exec_row_refused h .releaseAcq ht rfl (RequestKind.take_noSuch (units := 32) (by simp) (p := [b]) large _)
  · have taken : takeReleaseAcq [b] s.seeHigh =
        { state := s.seeHigh.setSlot x Slot.free, result := .ok, fields := slotReport x .idle } := by
      have idle' : (s.seeHigh.slot x).state = .idle := idle
      simp [takeReleaseAcq, unitNumber_val (show u8 [b] 0 = x.val from hx), idle']
    rw [slotReport_byteAt (show u8 [b] 0 = x.val from hx)] at taken
    exact exec_row_reply h .releaseAcq ht rfl taken
  · have refused : takeReleaseAcq [b] s.seeHigh = s.seeHigh.refuse .busy (slotReport x (s.slot x).state) := by
      have busy' : (s.seeHigh.slot x).state ≠ .idle := busy
      simp only [takeReleaseAcq, unitNumber_val (show u8 [b] 0 = x.val from hx), if_neg busy']
      rfl
    rw [slotReport_byteAt (show u8 [b] 0 = x.val from hx)] at refused
    exact exec_row_refused h .releaseAcq ht rfl refused

end Sys2Proof.Machine
end

section
/-! ARM-ACQ and CANCEL-ACQ (R15 to R17, R33, R38, R44). -/

namespace Sys2Proof.Machine

/-- The number of a slot as a payload byte. -/
theorem u8_slotNumber (x : SlotId) : u8 [BitVec.ofNat 8 x.val] 0 = x.val := u8_ofNat (by omega) []

theorem slotReport_number (x : SlotId) (st : SlotState) :
    slotReport x st = [BitVec.ofNat 8 x.val, BitVec.ofNat 8 st.code] := rfl

/-! ## The wait list -/

theorem joinWait_of_ahead {levelOf : SlotId → Fin 8} {x : SlotId} {back : List SlotId}
    (h : ∀ y ∈ back, levelOf x < levelOf y) : joinWait levelOf x back = x :: back := by
  cases back with
  | nil => rfl
  | cons y back => rw [joinWait, if_pos (h y List.mem_cons_self)]

theorem joinWait_append {levelOf : SlotId → Fin 8} {x : SlotId} {front : List SlotId} (back : List SlotId)
    (h : ∀ y ∈ front, levelOf y ≤ levelOf x) :
    joinWait levelOf x (front ++ back) = front ++ joinWait levelOf x back := by
  induction front with
  | nil => rfl
  | cons y front ih =>
    have behind : ¬ levelOf x < levelOf y := not_lt.2 (h y List.mem_cons_self)
    rw [List.cons_append, joinWait, if_neg behind, ih (fun z hz => h z (List.mem_cons_of_mem y hz)), List.cons_append]

/-! ## Arming -/

theorem placeIn_eq (pos : InsertPos) (x : SlotId) (l : List SlotId) :
    placeIn pos x l = if pos = .tail then l ++ [x] else x :: l := by cases pos <;> rfl

theorem State.enterReady_eq (s : State) (x : SlotId) (pos : InsertPos) : s.enterReady x pos =
    (s.setSlot x { s.slot x with state := .ready, readySince := s.now }).setLevel (s.slot x).defn.level
      (placeIn pos x (s.level (s.slot x).defn.level)) := by
  rw [State.enterReady, State.placeReady, State.slot_setSlot_self]
  rfl

theorem State.setSlot_setAnchor (s : State) (x : SlotId) (v : Slot) (a : AnchorId) (an : Anchor) :
    (s.setAnchor a an).setSlot x v = (s.setSlot x v).setAnchor a an := rfl

section
variable {s : State} {x : SlotId}

theorem State.armSlot_of_none (h : (s.slot x).defn.anchor = none) : s.armSlot x =
    (s.setSlot x { (s.slot x).loaded with state := .ready, readySince := s.now }).setLevel (s.slot x).defn.level
      (s.level (s.slot x).defn.level ++ [x]) := by
  have anchor : ((s.setSlot x (s.slot x).loaded).slot x).defn.anchor = none := by rw [State.slot_setSlot_self]; exact h
  rw [State.armSlot, State.placeArmed, anchor]
  simp only [State.enterReady_eq, State.slot_setSlot_self, State.setSlot_setSlot]
  rfl

theorem State.armSlot_of_some {a : AnchorId} (h : (s.slot x).defn.anchor = some a) :
    s.armSlot x = (s.setSlot x (s.slot x).loaded).arm x a := by
  have anchor : ((s.setSlot x (s.slot x).loaded).slot x).defn.anchor = some a := by rw [State.slot_setSlot_self]; exact h
  rw [State.armSlot, State.placeArmed, anchor]

theorem State.armSlot_of_banked {a : AnchorId} (h : (s.slot x).defn.anchor = some a)
    (banked : (s.anchor a).mode = .one ∧ 0 < (s.anchor a).bank) : s.armSlot x =
    ((s.setSlot x { (s.slot x).loaded with state := .ready, readySince := s.now }).setAnchor a
      { s.anchor a with bank := (s.anchor a).bank - 1 }).setLevel (s.slot x).defn.level
      (if (s.anchor a).insert = .tail then s.level (s.slot x).defn.level ++ [x] else x :: s.level (s.slot x).defn.level) := by
  have taken : (s.setSlot x (s.slot x).loaded).arm x a =
      ((s.setSlot x (s.slot x).loaded).setAnchor a { s.anchor a with bank := (s.anchor a).bank - 1 }).enterReady x
        (s.anchor a).insert := if_pos banked
  have again : ((s.setSlot x (s.slot x).loaded).setAnchor a { s.anchor a with bank := (s.anchor a).bank - 1 }).slot x =
      (s.slot x).loaded := State.slot_setSlot_self _ _ _
  rw [State.armSlot_of_some h, taken, State.enterReady_eq, again, State.setSlot_setAnchor, State.setSlot_setSlot, placeIn_eq]
  rfl

theorem State.armSlot_of_waiting {a : AnchorId} (h : (s.slot x).defn.anchor = some a)
    (unbanked : ¬ ((s.anchor a).mode = .one ∧ 0 < (s.anchor a).bank)) : s.armSlot x =
    (s.setSlot x { (s.slot x).loaded with state := .waiting }).setAnchor a
      { s.anchor a with waitList := joinWait (fun y => (s.slot y).defn.level) x (s.anchor a).waitList } := by
  have levels : (fun y => ((s.setSlot x (s.slot x).loaded).slot y).defn.level) = fun y => (s.slot y).defn.level := by
    funext y
    rw [State.slot_setSlot]
    split
    · next same => subst same; rfl
    · rfl
  have joined : (s.setSlot x (s.slot x).loaded).arm x a =
      ((s.setSlot x (s.slot x).loaded).setAnchor a { s.anchor a with
        waitList := joinWait (fun y => ((s.setSlot x (s.slot x).loaded).slot y).defn.level) x (s.anchor a).waitList }).setSlot
        x { (s.setSlot x (s.slot x).loaded).slot x with state := .waiting } := if_neg unbanked
  rw [State.armSlot_of_some h, joined, levels, State.slot_setSlot_self, State.setSlot_setAnchor, State.setSlot_setSlot]

theorem takeArmAcq_idle (h : (s.slot x).state = .idle) : takeArmAcq [BitVec.ofNat 8 x.val] s =
    { state := (s.armSlot x).dispatch, result := .ok, fields := slotReport x ((s.armSlot x).slot x).state } := by
  simp [takeArmAcq, unitNumber_val (u8_slotNumber x), h]

theorem takeArmAcq_busy (h : (s.slot x).state ≠ .idle) : takeArmAcq [BitVec.ofNat 8 x.val] s =
    s.refuse .busy (slotReport x (s.slot x).state) := by
  simp [takeArmAcq, unitNumber_val (u8_slotNumber x), h]

end

theorem exec_armAcq_idle {s : State} {tag : Byte} {x : SlotId} (h : s.takesAtOnce) (ht : tag ≠ 0)
    (idle : (s.slot x).state = .idle) {u : State} (armed : s.seeHigh.armSlot x = u) (epoch : u.epoch = s.epoch)
    {st : SlotState} (state : (u.slot x).state = st) :
    exec (.armAcq tag [BitVec.ofNat 8 x.val]) s = .next (u.dispatch.pushReply
      { tag := tag, kind := 0xA1, payload := [0, s.epoch, BitVec.ofNat 8 x.val, BitVec.ofNat 8 st.code] }) := by
  have taken := takeArmAcq_idle (s := s.seeHigh) idle
  rw [armed, state] at taken
  have dispatched : u.dispatch.epoch = s.epoch := by rw [← epoch]; simp
  refine (exec_row_reply h .armAcq ht rfl taken).trans ?_
  dsimp only
  rw [dispatched]
  rfl

/-- Settles O40: the slot placed by its anchor, then the dispatch; the wait list in two parts. -/
theorem armAcqPlacesSlot : Obligations.ArmAcqPlacesSlot := by
  unfold Obligations.ArmAcqPlacesSlot
  refine ⟨?_, fun levelOf x front back ahead behind => ?_⟩
  · intro s tag x h ht v number loaded ready lvl reply
    refine ⟨fun busy => exec_row_refused h .armAcq ht rfl (takeArmAcq_busy (s := s.seeHigh) busy), fun idle anchor => ?_,
      fun a idle anchor => ⟨fun banked => ?_, fun unbanked => ?_⟩⟩
    · exact exec_armAcq_idle h ht idle (State.armSlot_of_none (s := s.seeHigh) anchor) rfl
        (congrArg Slot.state (State.slot_setSlot_self _ _ _))
    · exact exec_armAcq_idle h ht idle (State.armSlot_of_banked (s := s.seeHigh) anchor banked) rfl
        (congrArg Slot.state (State.slot_setSlot_self _ _ _))
    · exact exec_armAcq_idle h ht idle (State.armSlot_of_waiting (s := s.seeHigh) anchor unbanked) rfl
        (congrArg Slot.state (State.slot_setSlot_self _ _ _))
  · rw [joinWait_append back ahead, joinWait_of_ahead behind]

/-! ## Cancelling -/

section
variable {s : State} {x : SlotId}

theorem takeCancelAcq_free (h : (s.slot x).state = .free) : takeCancelAcq [BitVec.ofNat 8 x.val] s =
    s.refuse .busy (slotReport x .free) := by
  simp [takeCancelAcq, unitNumber_val (u8_slotNumber x), h]

theorem takeCancelAcq_used (h : (s.slot x).state ≠ .free) : takeCancelAcq [BitVec.ofNat 8 x.val] s =
    { state := s.cancelSlot x, result := .ok, fields := slotReport x (s.slot x).state } := by
  simp [takeCancelAcq, unitNumber_val (u8_slotNumber x), h]

theorem State.cancelSlot_of_waiting (h : (s.slot x).state = .waiting) {a : AnchorId} (ha : (s.slot x).defn.anchor = some a) :
    s.cancelSlot x = (s.setSlot x (s.slot x).atRest).setAnchor a
      { s.anchor a with waitList := (s.anchor a).waitList.erase x } := by
  simp only [State.cancelSlot, h, State.leaveWait, ha]
  rfl

theorem State.cancelSlot_of_ready (h : (s.slot x).state = .ready) : s.cancelSlot x =
    ((s.setSlot x (s.slot x).atRest).setLevel (s.slot x).defn.level ((s.level (s.slot x).defn.level).erase x)).dispatch := by
  simp only [State.cancelSlot, h]
  rfl

theorem State.cancelSlot_of_converting (h : (s.slot x).state = .converting) :
    s.cancelSlot x = s.setSlot x { s.slot x with cancel := true } := by
  simp only [State.cancelSlot, h]

theorem State.cancelSlot_of_idle (h : (s.slot x).state = .idle) : s.cancelSlot x = s := by
  simp only [State.cancelSlot, h]

end

theorem exec_cancelAcq_used {s : State} {tag : Byte} {x : SlotId} (h : s.takesAtOnce) (ht : tag ≠ 0) {st : SlotState}
    (state : (s.slot x).state = st) (used : st ≠ .free) {u : State} (cancelled : s.seeHigh.cancelSlot x = u)
    (epoch : u.epoch = s.epoch) :
    exec (.cancelAcq tag [BitVec.ofNat 8 x.val]) s = .next (u.pushReply
      { tag := tag, kind := 0xA2, payload := [0, s.epoch, BitVec.ofNat 8 x.val, BitVec.ofNat 8 st.code] }) := by
  have taken := takeCancelAcq_used (s := s.seeHigh) (x := x) (fun free => used (state.symm.trans free))
  have report : slotReport x (s.seeHigh.slot x).state = slotReport x st := congrArg (slotReport x) state
  rw [cancelled, report] at taken
  refine (exec_row_reply h .cancelAcq ht rfl taken).trans ?_
  dsimp only
  rw [epoch]
  rfl

/-- Settles O41: by the state of the slot. -/
theorem cancelAcqBringsToRest : Obligations.CancelAcqBringsToRest := by
  unfold Obligations.CancelAcqBringsToRest
  intro s tag x h ht v rested number answer
  refine ⟨fun free => ?_, fun idle => ?_, fun a waiting anchor => ?_, fun ready => ?_, fun converting => ?_⟩
  · exact exec_row_refused h .cancelAcq ht rfl (takeCancelAcq_free (s := s.seeHigh) free)
  · exact exec_cancelAcq_used h ht idle (by decide) (State.cancelSlot_of_idle (s := s.seeHigh) idle) rfl
  · exact exec_cancelAcq_used h ht waiting (by decide) (State.cancelSlot_of_waiting (s := s.seeHigh) waiting anchor) rfl
  · exact exec_cancelAcq_used h ht ready (by decide) (State.cancelSlot_of_ready (s := s.seeHigh) ready) (by simp)
  · exact exec_cancelAcq_used h ht converting (by decide) (State.cancelSlot_of_converting (s := s.seeHigh) converting) rfl

end Sys2Proof.Machine
end

section
/-! SET-ANCHOR (R28, R30, R39, R40, R177). -/

namespace Sys2Proof.Machine

/-! ## The payload -/

theorem centreOf_isSome_iff (a : AnchorId) : (centreOf a).isSome = true ↔ a.val < 4 := by
  unfold centreOf
  split <;> simp [*]

theorem centreOf_eq_some_iff {a : AnchorId} {c : ChanId} : centreOf a = some c ↔ c.val = a.val := by
  unfold centreOf
  split
  · rw [Option.some.injEq, Fin.ext_iff]
    exact eq_comm
  · exact ⟨(nomatch ·), fun same => by omega⟩

theorem cadenceOf_isSome_iff (a : AnchorId) : (cadenceOf a).isSome = true ↔ 4 ≤ a.val ∧ a.val < 8 := by
  unfold cadenceOf
  split <;> simp [*]

theorem cadenceOf_eq_some_iff {a : AnchorId} {k : Fin 4} : cadenceOf a = some k ↔ k.val + 4 = a.val := by
  unfold cadenceOf
  split
  · rw [Option.some.injEq, Fin.ext_iff]
    show a.val - 4 = k.val ↔ _
    omega
  · exact ⟨(nomatch ·), fun same => by omega⟩

theorem ReleaseMode.ofCode_of_le {n : Nat} (h : n ≤ 1) : ReleaseMode.ofCode n = some (if n = 0 then .one else .all) := by
  obtain rfl | rfl : n = 0 ∨ n = 1 := by omega
  · rfl
  · rfl

theorem ReleaseMode.ofCode_of_gt {n : Nat} (h : ¬ n ≤ 1) : ReleaseMode.ofCode n = none := by
  unfold ReleaseMode.ofCode
  split
  · omega
  · omega
  · rfl

theorem InsertPos.ofCode_of_le {n : Nat} (h : n ≤ 1) : InsertPos.ofCode n = some (if n = 0 then .tail else .head) := by
  obtain rfl | rfl : n = 0 ∨ n = 1 := by omega
  · rfl
  · rfl

theorem InsertPos.ofCode_of_gt {n : Nat} (h : ¬ n ≤ 1) : InsertPos.ofCode n = none := by
  unfold InsertPos.ofCode
  split
  · omega
  · omega
  · rfl

/-- The check of a divider: for a centre anchor, in its range. -/
theorem dividerCheck_of_good {a : AnchorId} {n : Nat} (h : a.val < 4 ∧ 1 ≤ n ∧ n ≤ 256) :
    (if (centreOf a).isSome then inRange 1 256 n else none) = some n := by
  rw [if_pos ((centreOf_isSome_iff a).2 h.1), inRange_of_mem h.2]

theorem dividerCheck_of_bad {a : AnchorId} {n : Nat} (h : ¬ (a.val < 4 ∧ 1 ≤ n ∧ n ≤ 256)) :
    (if (centreOf a).isSome then inRange 1 256 n else none) = none := by
  split
  · next centre => exact inRange_of_not_mem fun fits => h ⟨(centreOf_isSome_iff a).1 centre, fits⟩
  · rfl

/-- The check of a period: for a cadence anchor, 0 or in its range. -/
theorem periodCheck_of_good {a : AnchorId} {n : Nat} (h : (4 ≤ a.val ∧ a.val < 8) ∧ (n = 0 ∨ (100 ≤ n ∧ n ≤ 1000000))) :
    (if (cadenceOf a).isSome then cadencePeriodOf n else none) = some n := by
  rw [if_pos ((cadenceOf_isSome_iff a).2 h.1), cadencePeriodOf]
  split
  · next zero => rw [zero]
  · next positive => exact inRange_of_mem (h.2.resolve_left positive)

theorem periodCheck_of_bad {a : AnchorId} {n : Nat}
    (h : ¬ ((4 ≤ a.val ∧ a.val < 8) ∧ (n = 0 ∨ (100 ≤ n ∧ n ≤ 1000000)))) :
    (if (cadenceOf a).isSome then cadencePeriodOf n else none) = none := by
  split
  · next cadence =>
    rw [cadencePeriodOf, if_neg fun zero => h ⟨(cadenceOf_isSome_iff a).1 cadence, Or.inl zero⟩]
    exact inRange_of_not_mem fun fits => h ⟨(cadenceOf_isSome_iff a).1 cadence, Or.inr fits⟩
  · rfl

/-- The settings that a SET-ANCHOR payload selects. -/
def anchorSettings (p : List Byte) : AnchorWrite where
  mode := if (u8 p 1).testBit 0 = true then some (if u8 p 2 = 0 then .one else .all) else none
  insert := if (u8 p 1).testBit 1 = true then some (if u8 p 3 = 0 then .tail else .head) else none
  divider := if (u8 p 1).testBit 2 = true then some (u16 p 4) else none
  period := if (u8 p 1).testBit 3 = true then some (u32 p 6) else none

/-- Every selected setting is in its range and belongs to the anchor. -/
structure AnchorPayloadGood (a : AnchorId) (p : List Byte) : Prop where
  selection : u8 p 1 < 16
  mode : (u8 p 1).testBit 0 = true → u8 p 2 ≤ 1
  insert : (u8 p 1).testBit 1 = true → u8 p 3 ≤ 1
  divider : (u8 p 1).testBit 2 = true → a.val < 4 ∧ 1 ≤ u16 p 4 ∧ u16 p 4 ≤ 256
  period : (u8 p 1).testBit 3 = true → (4 ≤ a.val ∧ a.val < 8) ∧ (u32 p 6 = 0 ∨ (100 ≤ u32 p 6 ∧ u32 p 6 ≤ 1000000))

theorem AnchorWrite.ofPayload_eq_some_iff (a : AnchorId) (p : List Byte) (w : AnchorWrite) :
    AnchorWrite.ofPayload a p = some w ↔ AnchorPayloadGood a p ∧ w = anchorSettings p := by
  simp only [AnchorWrite.ofPayload]
  split
  · next h => exact ⟨(nomatch ·), fun ⟨good, _⟩ => absurd good.selection (by omega)⟩
  · next h =>
    simp only [Option.bind_eq_bind, Option.bind_eq_some_iff, Option.pure_def, Option.some.injEq,
      whenSelected_checked ReleaseMode.ofCode_of_le ReleaseMode.ofCode_of_gt,
      whenSelected_checked InsertPos.ofCode_of_le InsertPos.ofCode_of_gt,
      whenSelected_checked (dividerCheck_of_good (a := a)) dividerCheck_of_bad,
      whenSelected_checked (periodCheck_of_good (a := a)) periodCheck_of_bad]
    constructor
    · rintro ⟨_, ⟨mode, rfl⟩, _, ⟨insert, rfl⟩, _, ⟨divider, rfl⟩, _, ⟨period, rfl⟩, rfl⟩
      exact ⟨⟨by omega, mode, insert, divider, period⟩, rfl⟩
    · rintro ⟨⟨-, mode, insert, divider, period⟩, rfl⟩
      exact ⟨_, ⟨mode, rfl⟩, _, ⟨insert, rfl⟩, _, ⟨divider, rfl⟩, _, ⟨period, rfl⟩, rfl⟩

theorem AnchorWrite.ofPayload_of_bad {a : AnchorId} {p : List Byte} (bad : ¬ AnchorPayloadGood a p) :
    AnchorWrite.ofPayload a p = none := by
  rw [Option.eq_none_iff_forall_ne_some]
  intro w passed
  exact bad ((AnchorWrite.ofPayload_eq_some_iff a p w).1 passed).1

end Sys2Proof.Machine
end

section
/-! O43: the settings of an anchor written. -/

namespace Sys2Proof.Machine

theorem State.writeDivider_none (s : State) (a : AnchorId) : s.writeDivider a none = s := by
  unfold State.writeDivider
  cases centreOf a <;> rfl

theorem State.writePeriod_none (s : State) (a : AnchorId) : s.writePeriod a none = s := by
  unfold State.writePeriod
  cases cadenceOf a <;> rfl

theorem State.chan_writeDivider (s : State) (a : AnchorId) (n : Nat) (c : ChanId) :
    (s.writeDivider a (some n)).chan c =
      if c.val = a.val then { s.chan c with divider := n, centreCount := 0 } else s.chan c := by
  unfold State.writeDivider
  cases centre : centreOf a with
  | none =>
    have other : c.val ≠ a.val := fun same => by
      rw [centreOf_eq_some_iff.2 same] at centre
      cases centre
    rw [if_neg other]
  | some d =>
    have own : d.val = a.val := centreOf_eq_some_iff.1 centre
    dsimp only
    rw [State.chan_setChan]
    by_cases same : d = c
    · subst same
      rw [if_pos rfl, if_pos own]
    · rw [if_neg same, if_neg fun val => same (Fin.ext (own.trans val.symm))]

theorem State.cadence_writePeriod (s : State) (a : AnchorId) (n : Nat) (k : Fin 4) :
    (s.writePeriod a (some n)).cadences.get k =
      if k.val + 4 = a.val then { period := n, due := if n = 0 then 0 else s.now + BitVec.ofNat 32 n }
      else s.cadences.get k := by
  unfold State.writePeriod
  cases cadence : cadenceOf a with
  | none =>
    have other : k.val + 4 ≠ a.val := fun same => by
      rw [cadenceOf_eq_some_iff.2 same] at cadence
      cases cadence
    rw [if_neg other]
  | some j =>
    have own : j.val + 4 = a.val := cadenceOf_eq_some_iff.1 cadence
    dsimp only
    rw [State.cadence_setCadence]
    by_cases same : j = k
    · subst same
      rw [if_pos rfl, if_pos own]
      rfl
    · rw [if_neg same, if_neg fun val => same (Fin.ext (by omega))]

theorem State.writeAnchor_eq (s : State) (a : AnchorId) (w : AnchorWrite) : s.writeAnchor a w =
    { s with
      anchors := (s.writeAnchor a w).anchors, chans := (s.writeAnchor a w).chans
      cadences := (s.writeAnchor a w).cadences } := by
  have frame := s.writeAnchor_frame a w
  generalize s.writeAnchor a w = u at frame ⊢
  cases u
  simp_all

theorem State.anchor_writeAnchor (s : State) (a b : AnchorId) (w : AnchorWrite) :
    (s.writeAnchor a w).anchor b = if b = a then (s.anchor a).written w else s.anchor b := by
  have late (t : State) : ((t.writeDivider a w.divider).writePeriod a w.period).anchor b = t.anchor b := by
    simp [State.anchor]
  rw [State.writeAnchor, late, State.anchor_setAnchor]
  simp only [eq_comm]

theorem State.chan_writeAnchor (s : State) (a : AnchorId) (w : AnchorWrite) (c : ChanId) :
    (s.writeAnchor a w).chan c = ((s.setAnchor a ((s.anchor a).written w)).writeDivider a w.divider).chan c := by
  simp [State.writeAnchor, State.chan]

theorem State.chan_writeAnchor_settings (s : State) (a : AnchorId) (p : List Byte) (c : ChanId) :
    (s.writeAnchor a (anchorSettings p)).chan c = if c.val = a.val ∧ (u8 p 1).testBit 2 = true then
      { s.chan c with divider := u16 p 4, centreCount := 0 } else s.chan c := by
  rw [State.chan_writeAnchor]
  by_cases sel : (u8 p 1).testBit 2 = true
  · have divider : (anchorSettings p).divider = some (u16 p 4) := if_pos sel
    rw [divider]
    simp only [sel, and_true]
    exact State.chan_writeDivider _ a _ c
  · have divider : (anchorSettings p).divider = none := if_neg sel
    rw [divider, State.writeDivider_none, if_neg fun both => sel both.2]
    rfl

theorem State.cadence_writeAnchor_settings (s : State) (a : AnchorId) (p : List Byte) (k : Fin 4) :
    (s.writeAnchor a (anchorSettings p)).cadences.get k = if k.val + 4 = a.val ∧ (u8 p 1).testBit 3 = true then
      { period := u32 p 6, due := if u32 p 6 = 0 then 0 else s.now + BitVec.ofNat 32 (u32 p 6) }
      else s.cadences.get k := by
  have before (t : State) (d : Option Nat) : (t.writeDivider a d).cadences = t.cadences ∧ (t.writeDivider a d).now = t.now := by
    simp [State.now]
  rw [State.writeAnchor]
  by_cases sel : (u8 p 1).testBit 3 = true
  · have period : (anchorSettings p).period = some (u32 p 6) := if_pos sel
    rw [period, State.cadence_writePeriod, (before _ _).1, (before _ _).2]
    simp only [sel, and_true]
    rfl
  · have period : (anchorSettings p).period = none := if_neg sel
    rw [period, State.writePeriod_none, (before _ _).1, if_neg fun both => sel both.2]
    rfl

theorem Anchor.written_settings (an : Anchor) {a : AnchorId} {p : List Byte} (good : AnchorPayloadGood a p) :
    an.written (anchorSettings p) =
      { waitList := an.waitList
        mode := if (u8 p 1).testBit 0 = true then (if u8 p 2 = 0 then .one else .all) else an.mode
        insert := if (u8 p 1).testBit 1 = true then (if u8 p 3 = 0 then .tail else .head) else an.insert
        bank := if (u8 p 1).testBit 0 = true ∧ u8 p 2 = 1 then 0 else an.bank } := by
  have all_iff : (anchorSettings p).mode = some .all ↔ (u8 p 1).testBit 0 = true ∧ u8 p 2 = 1 := by
    unfold anchorSettings
    by_cases sel : (u8 p 1).testBit 0 = true
    · have code := good.mode sel
      by_cases zero : u8 p 2 = 0
      · simp [sel, zero]
      · simp [sel, show u8 p 2 = 1 by omega]
    · simp [sel]
  unfold Anchor.written
  simp only [all_iff]
  unfold anchorSettings
  cases (u8 p 1).testBit 0 <;> cases (u8 p 1).testBit 1 <;> rfl

theorem exec_setAnchor_accepted {s : State} {tag : Byte} {p : List Byte} {a : AnchorId} (h : s.takesAtOnce)
    (ht : tag ≠ 0) (hp : p.length = 10) (ha : u8 p 0 = a.val) (good : AnchorPayloadGood a p) :
    exec (.setAnchor tag p) s = .next ((s.seeHigh.writeAnchor a (anchorSettings p)).pushReply
      { tag := tag, kind := 0xA4, payload := [0, s.epoch] ++
          (s.seeHigh.writeAnchor a (anchorSettings p)).anchorReport a }) := by
  have passed := (AnchorWrite.ofPayload_eq_some_iff a p _).2 ⟨good, rfl⟩
  have taken : takeSetAnchor p s.seeHigh =
      { state := s.seeHigh.writeAnchor a (anchorSettings p), result := .ok
        fields := (s.seeHigh.writeAnchor a (anchorSettings p)).anchorReport a } := by
    simp only [takeSetAnchor, unitNumber_val ha, passed]
  have epoch : (s.seeHigh.writeAnchor a (anchorSettings p)).epoch = s.epoch := by
    rw [State.writeAnchor_eq]
    rfl
  refine (exec_row_reply h .setAnchor ht hp taken).trans ?_
  dsimp only
  rw [epoch]
  rfl

theorem exec_setAnchor_refused {s : State} {tag : Byte} {p : List Byte} {a : AnchorId} (h : s.takesAtOnce)
    (ht : tag ≠ 0) (hp : p.length = 10) (ha : u8 p 0 = a.val) (bad : ¬ AnchorPayloadGood a p) :
    exec (.setAnchor tag p) s =
      .next (s.seeHigh.pushReply { tag := tag, kind := 0xA4, payload := [4, s.epoch, byteAt p 0] }) := by
  have refused : takeSetAnchor p s.seeHigh = s.seeHigh.refuse .badArg [byteAt p 0] := by
    simp only [takeSetAnchor, unitNumber_val ha, AnchorWrite.ofPayload_of_bad bad]
  exact exec_row_refused h .setAnchor ht hp refused

/-- Settles O43: the checks, the settings written, and the reply that reads the anchor back. -/
theorem setAnchorWritesSettings : Obligations.SetAnchorWritesSettings := by
  unfold Obligations.SetAnchorWritesSettings
  intro s tag p a h ht hp ha sel good
  have good_iff : AnchorPayloadGood a p ↔ good :=
    ⟨fun ⟨g, g0, g1, g2, g3⟩ => ⟨g, g0, g1, g2, g3⟩, fun ⟨g, g0, g1, g2, g3⟩ => ⟨g, g0, g1, g2, g3⟩⟩
  refine ⟨fun bad => exec_setAnchor_refused h ht hp ha (mt good_iff.1 bad), fun hgood => ?_⟩
  have passed := good_iff.2 hgood
  have anchor (b : AnchorId) := s.seeHigh.anchor_writeAnchor a b (anchorSettings p)
  simp only [(s.seeHigh.anchor a).written_settings passed] at anchor
  refine ⟨_, (exec_setAnchor_accepted h ht hp ha passed).trans ?_, s.seeHigh.writeAnchor_eq a _, anchor,
    s.seeHigh.chan_writeAnchor_settings a p, s.seeHigh.cadence_writeAnchor_settings a p⟩
  have waiting : ((s.seeHigh.writeAnchor a (anchorSettings p)).anchor a).waitList = (s.anchor a).waitList := by
    rw [anchor, if_pos rfl]
    rfl
  have number : out8 a.val = [byteAt p 0] := by rw [← ha, out8, ofNat_u8]
  generalize s.seeHigh.writeAnchor a (anchorSettings p) = u at waiting
  simp only [State.anchorReport, number, waiting, State.dividerOf, State.cadenceReport, List.append_assoc]
  have zero16 : out16 0 = [0, 0] := rfl
  have zero32 : out32 0 ++ out32 0 = [0, 0, 0, 0, 0, 0, 0, 0] := rfl
  cases centreOf a <;> cases cadenceOf a <;> simp only [zero16, zero32] <;> rfl

end Sys2Proof.Machine
end

section
/-! Dispatch (R50 to R52): the most urgent head, and the chain step by step; O46. -/

namespace Sys2Proof.Machine

/-! ## The most urgent level -/

theorem State.mostUrgent_of_empty {s : State} (h : ∀ l, s.level l = []) : s.mostUrgent = none := by
  rw [State.mostUrgent, List.findSome?_eq_none_iff]
  intro l _
  simp [h l]

/-- The levels in order are those before one, the one, and those behind it. -/
theorem allLevels_eq_split : ∀ l : Fin 8, allLevels = allLevels.filter (· < l) ++ l :: allLevels.filter (l < ·) := by
  decide

theorem State.mostUrgent_of_head {s : State} {l : Fin 8} {x : SlotId} {rest : List SlotId}
    (empty : ∀ m, m < l → s.level m = []) (head : s.level l = x :: rest) : s.mostUrgent = some (l, x, rest) := by
  unfold State.mostUrgent
  rw [allLevels_eq_split l, List.findSome?_append, List.findSome?_eq_none_iff.2]
  · simp [head]
  · intro m hm
    have before : m < l := by simpa using (List.mem_filter.1 hm).2
    simp [empty m before]

/-! ## The chain -/

theorem State.chainMeasure_setLevel {s : State} {l : Fin 8} {x : SlotId} {rest : List SlotId}
    (h : s.level l = x :: rest) : s.chainMeasure = (s.setLevel l rest).chainMeasure + 1 := by
  have sum := s.sum_setLevel l rest
  have banks (b : AnchorId) : (s.setLevel l rest).anchor b = s.anchor b := rfl
  rw [h, List.length_cons] at sum
  unfold State.chainMeasure
  simp only [banks]
  omega

/-- A chain long enough for its state does what a longer one does (R52). -/
theorem State.dispatchChain_succ {n : Nat} {s : State} (h : s.chainMeasure < n) :
    State.dispatchChain (n + 1) s = State.dispatchChain n s := by
  induction n generalizing s with
  | zero => omega
  | succ n ih =>
    rw [State.dispatchChain, State.dispatchChain]
    split
    · rfl
    · rfl
    · next l x rest _ urgent =>
      split
      · refine ih ?_
        have level := State.mostUrgent_level urgent
        rw [State.chainMeasure_finishMissed]
        have measure := State.chainMeasure_setLevel level
        omega
      · rfl

theorem State.dispatch_eq_chain {n : Nat} {s : State} (h : s.chainMeasure < n) : State.dispatchChain n s = s.dispatch := by
  have bound : s.dispatch = State.dispatchChain (s.chainMeasure + 1) s := by rw [State.dispatch, State.chainBound_eq]
  obtain ⟨k, rfl⟩ := Nat.exists_eq_add_of_le (show s.chainMeasure + 1 ≤ n from h)
  rw [bound]
  induction k with
  | zero => rfl
  | succ k ih =>
    rw [← ih (by omega), ← Nat.add_assoc]
    exact State.dispatchChain_succ (by omega)

theorem State.dispatch_of_empty {s : State} (h : ∀ l, s.level l = []) : s.dispatch = s := by
  rw [State.dispatch, State.chainBound_eq, State.dispatchChain, State.mostUrgent_of_empty h]
  cases s.conv <;> rfl

theorem State.dispatch_of_late {s : State} {l : Fin 8} {x : SlotId} {rest : List SlotId} (idle : s.conv = none)
    (urgent : s.mostUrgent = some (l, x, rest)) (late : (s.slot x).late = true) :
    s.dispatch = ((s.setLevel l rest).finishMissed x).dispatch := by
  have measure := State.chainMeasure_setLevel (State.mostUrgent_level urgent)
  rw [State.dispatch, State.chainBound_eq, State.dispatchChain, idle, urgent]
  simp only [late, if_true]
  refine State.dispatch_eq_chain ?_
  rw [State.chainMeasure_finishMissed]
  omega

theorem State.dispatch_of_timely {s : State} {l : Fin 8} {x : SlotId} {rest : List SlotId} (idle : s.conv = none)
    (urgent : s.mostUrgent = some (l, x, rest)) (timely : (s.slot x).late = false) :
    s.dispatch = (s.setLevel l rest).startConversion x := by
  rw [State.dispatch, State.chainBound_eq, State.dispatchChain, idle, urgent]
  simp [timely]

theorem State.startConversion_eq {s : State} {x : SlotId} {e : Fin 12}
    (element : (s.slot x).defn.elements[(s.slot x).cursor]? = some e) : s.startConversion x =
      { s with
        slots := Table.put s.slots x { s.slot x with
          state := .converting, roundTime := if (s.slot x).cursor = 0 then s.now else (s.slot x).roundTime }
        conv := some { slot := x, channel := e, start := s.now, elapsed := 0 } } := by
  have channel : Slot.elementAtCursor { s.slot x with
      state := .converting, roundTime := if (s.slot x).cursor = 0 then s.now else (s.slot x).roundTime } = e := by
    simp [Slot.elementAtCursor, element]
  simp only [State.startConversion, State.startElement, State.slot_setSlot_self, channel]
  rfl

/-- Settles O46: the most urgent head, then by its LATE flag. -/
theorem dispatchTakesMostUrgent : Obligations.DispatchTakesMostUrgent := by
  unfold Obligations.DispatchTakesMostUrgent
  intro s
  refine ⟨rfl, s.dispatch_of_converting, State.dispatch_of_empty, fun l x rest idle empty head => ?_⟩
  have urgent := State.mostUrgent_of_head empty head
  refine ⟨State.dispatch_of_late idle urgent, fun e timely element => ?_⟩
  rw [State.dispatch_of_timely idle urgent timely, State.startConversion_eq (s := s.setLevel l rest) element]
  rfl

end Sys2Proof.Machine
end

section
/-! O48: the finish of a round (R20 to R23, R63). -/

namespace Sys2Proof.Machine

section
variable {s : State} {x : SlotId}

/-- A closed slot with one round fewer. -/
def Slot.counted (v : Slot) : Slot := { v.closed with remaining := v.remaining - 1 }

theorem State.finishRound_eq (s : State) (x : SlotId) : s.finishRound x =
    if (s.slot x).defn.repeating = false then (s.setSlot x (s.slot x).closed).rest x
    else if (s.slot x).defn.rounds = 0 then (s.setSlot x (s.slot x).closed).rearm x
    else if (s.slot x).remaining - 1 = 0 then ((s.setSlot x (s.slot x).counted).rest x).post .acqDone x.val (s.slot x).sequence
    else (s.setSlot x (s.slot x).counted).rearm x := by
  have counted : (s.setSlot x (s.slot x).closed).countRound x = s.setSlot x (s.slot x).counted := by
    rw [State.countRound, State.slot_setSlot_self, State.setSlot_setSlot]
    rfl
  rw [State.finishRound, State.completionPath, State.slot_setSlot_self, counted]
  rfl

theorem State.rest_setSlot (s : State) (x : SlotId) (v : Slot) : (s.setSlot x v).rest x = s.setSlot x v.atRest := by
  rw [State.rest, State.slot_setSlot_self, State.setSlot_setSlot]

theorem State.rearm_setSlot {v : Slot} {a : AnchorId} (h : v.defn.anchor = some a) :
    (s.setSlot x v).rearm x = (s.setSlot x v).arm x a := by
  simp only [State.rearm, State.slot_setSlot_self, h]

end

/-- Settles O48: the completion path branch by branch; the missed round step by step. -/
theorem roundsAreFinished : Obligations.RoundsAreFinished := by
  unfold Obligations.RoundsAreFinished
  refine ⟨?_, ?_⟩
  · intro s x v closed counted
    refine ⟨fun once => ?_, fun again limited last => ?_, fun a again anchor => ⟨fun endless => ?_, fun limited more => ?_⟩⟩
    · rw [State.finishRound_eq, if_pos once, State.rest_setSlot]
      rfl
    all_goals
      have repeats : ¬ (s.slot x).defn.repeating = false := by
        rw [Bool.not_eq_false]
        exact again
    · rw [State.finishRound_eq, if_neg repeats, if_neg limited, if_pos (Nat.sub_eq_zero_of_le last), State.rest_setSlot]
      rfl
    · rw [State.finishRound_eq, if_neg repeats, if_pos endless, State.rearm_setSlot (by exact anchor)]
      rfl
    · rw [State.finishRound_eq, if_neg repeats, if_neg limited, if_neg (Nat.sub_ne_zero_of_lt more),
        State.rearm_setSlot (by exact anchor)]
      rfl
  · intro s x v timed written flagged
    have missed : flagged = written.missFeedback v.defn.feedback := by
      simp only [flagged]
      cases v.defn.feedback <;> rfl
    rw [missed]
    rfl

end Sys2Proof.Machine
end

section
/-! A CANCEL-ACQ that stands next on the queue, and what it leaves to dispatch (R41, R59, logs 30 and 34). -/

namespace Sys2Proof.Machine

theorem State.mayTake_of_takesAtOnce {s : State} (h : s.takesAtOnce) : s.mayTake = true := by
  obtain ⟨-, -, -, room, running⟩ := h
  simp [State.mayTake, room, running]

theorem State.cancelsReady_iff {s : State} {tag b : Byte} {y : SlotId} (ht : tag ≠ 0) (hb : b.toNat = y.val) :
    s.cancelsReady { tag, kind := 0x22, payload := [b] } = true ↔ (s.slot y).state = .ready := by
  have number : unitNumber (u8 [b] 0) 32 = some y := unitNumber_val hb
  have tagged : (tag != 0) = true := by simpa using ht
  simp only [State.cancelsReady, tagged, number]
  simp

/-- A CANCEL-ACQ that stands next and is taken as it arrives. -/
theorem State.cancelNext_iff {s : State} {tag b : Byte} {rest : List Instr} {y : SlotId}
    (pending : s.pending = .cancelAcq tag [b] :: rest) (h : s.takesAtOnce) (ht : tag ≠ 0) (hb : b.toNat = y.val) :
    s.cancelNext = true ↔ (s.slot y).state = .ready := by
  have may := State.mayTake_of_takesAtOnce h
  obtain ⟨live, high, empty, -, -⟩ := h
  have arrives : s.arrivingNext = some { tag, kind := 0x22, payload := [b] } := by simp [State.arrivingNext, pending]
  have taken : s.takenNext = some { tag, kind := 0x22, payload := [b] } := by
    simp [State.takenNext, empty, may, high, arrives]
  rw [State.cancelNext, live, taken, Option.any_some, Bool.true_and, State.cancelsReady_iff ht hb]

/-- The number of a slot as a byte is the byte. -/
theorem byte_eq_number {b : Byte} {x : SlotId} (h : b.toNat = x.val) : b = BitVec.ofNat 8 x.val := by
  rw [← h, BitVec.ofNat_toNat, BitVec.setWidth_eq]

/-! ## The queue that a cancel leaves -/

/-- A state from which a READY slot has been cancelled, before the dispatch. -/
def State.cancelledReady (s : State) (x : SlotId) : State :=
  (s.setSlot x (s.slot x).atRest).setLevel (s.slot x).defn.level ((s.level (s.slot x).defn.level).erase x)

theorem State.epoch_dispatch (s : State) : s.dispatch.epoch = s.epoch := by simp

theorem exec_cancelAcq_ready {s : State} {tag b : Byte} {x : SlotId} (h : s.takesAtOnce) (ht : tag ≠ 0)
    (hb : b.toNat = x.val) (ready : (s.slot x).state = .ready) :
    ∃ r : Reply, exec (.cancelAcq tag [b]) s = .next ((s.seeHigh.cancelledReady x).dispatch.pushReply r) := by
  rw [byte_eq_number hb]
  exact ⟨_, exec_cancelAcq_used h ht ready (by decide) (State.cancelSlot_of_ready (s := s.seeHigh) ready)
    (State.epoch_dispatch _)⟩

theorem State.level_cancelledReady_own {s : State} {x : SlotId} (h : s.level (s.slot x).defn.level = [x]) :
    (s.cancelledReady x).level (s.slot x).defn.level = [] := by
  rw [State.cancelledReady, State.level_setLevel, if_pos rfl, h]
  simp

theorem State.level_cancelledReady_ne (s : State) {x : SlotId} {l : Fin 8} (h : l ≠ (s.slot x).defn.level) :
    (s.cancelledReady x).level l = s.level l := by
  rw [State.cancelledReady, State.level_setLevel, if_neg (Ne.symm h)]
  rfl

theorem State.slot_cancelledReady (s : State) (x y : SlotId) :
    (s.cancelledReady x).slot y = if x = y then (s.slot x).atRest else s.slot y := s.slot_setSlot x y _

/-- With no other slot READY the cancel leaves the queue empty and the converter IDLE. -/
theorem State.cancelLast {s : State} {tag b : Byte} {x : SlotId} (h : s.takesAtOnce) (ht : tag ≠ 0)
    (hb : b.toNat = x.val) (idle : s.conv = none) (ready : (s.slot x).state = .ready)
    (alone : s.level (s.slot x).defn.level = [x]) (empty : ∀ l : Fin 8, l ≠ (s.slot x).defn.level → s.level l = []) :
    ∃ t : State, exec (.cancelAcq tag [b]) s = .next t ∧ t.conv = none ∧ (t.slot x).state = .idle ∧
      ∀ l : Fin 8, t.level l = [] := by
  obtain ⟨r, row⟩ := exec_cancelAcq_ready h ht hb ready
  have levels (l : Fin 8) : (s.seeHigh.cancelledReady x).level l = [] := by
    by_cases own : l = (s.slot x).defn.level
    · rw [own]
      exact State.level_cancelledReady_own (s := s.seeHigh) alone
    · rw [State.level_cancelledReady_ne s.seeHigh own]
      exact empty l own
  have slot : (s.seeHigh.cancelledReady x).slot x = (s.slot x).atRest := by
    rw [State.slot_cancelledReady, if_pos rfl]
    rfl
  rw [State.dispatch_of_empty levels] at row
  exact ⟨_, row, idle, congrArg Slot.state slot, levels⟩

/-- With one other slot READY, that was yielded, the cancel resumes it. -/
theorem State.cancelResumes {s : State} {tag b : Byte} {x y : SlotId} {l : Fin 8} {e : Fin 12} (h : s.takesAtOnce)
    (ht : tag ≠ 0) (hb : b.toNat = y.val) (idle : s.conv = none) (ready : (s.slot y).state = .ready) (distinct : x ≠ y)
    (timely : (s.slot x).late = false) (begun : (s.slot x).cursor ≠ 0) (below : (s.slot y).defn.level < l)
    (waiting : s.level l = [x]) (cancelled : s.level (s.slot y).defn.level = [y])
    (empty : ∀ m : Fin 8, m ≠ l → m ≠ (s.slot y).defn.level → s.level m = [])
    (element : (s.slot x).defn.elements[(s.slot x).cursor]? = some e) :
    ∃ t : State, exec (.cancelAcq tag [b]) s = .next t ∧
      t.conv = some { slot := x, channel := e, start := s.now, elapsed := 0 } ∧
      t.slot x = { s.slot x with state := .converting } ∧ (t.slot y).state = .idle := by
  obtain ⟨r, row⟩ := exec_cancelAcq_ready h ht hb ready
  have levels (m : Fin 8) (hm : m ≠ l) : (s.seeHigh.cancelledReady y).level m = [] := by
    by_cases own : m = (s.slot y).defn.level
    · rw [own]
      exact State.level_cancelledReady_own (s := s.seeHigh) cancelled
    · rw [State.level_cancelledReady_ne s.seeHigh own]
      exact empty m hm own
  have head : (s.seeHigh.cancelledReady y).level l = [x] := by
    rw [State.level_cancelledReady_ne s.seeHigh (by exact (ne_of_lt below).symm)]
    exact waiting
  have slot_x : (s.seeHigh.cancelledReady y).slot x = s.slot x := by
    rw [State.slot_cancelledReady, if_neg (Ne.symm distinct)]
    rfl
  have slot_y : (s.seeHigh.cancelledReady y).slot y = (s.slot y).atRest := by
    rw [State.slot_cancelledReady, if_pos rfl]
    rfl
  have conv : (s.seeHigh.cancelledReady y).conv = none := idle
  have now : (s.seeHigh.cancelledReady y).now = s.now := rfl
  generalize s.seeHigh.cancelledReady y = u at row levels head slot_x slot_y conv now
  have urgent := State.mostUrgent_of_head (fun m hm => levels m (ne_of_lt hm)) head
  rw [State.dispatch_of_timely conv urgent (by rw [slot_x]; exact timely),
    State.startConversion_eq (s := u.setLevel l []) (e := e) (by
      have same : (u.setLevel l []).slot x = s.slot x := slot_x
      rw [same]; exact element)] at row
  refine ⟨_, row, ?_, ?_, ?_⟩
  · rw [← now]
    rfl
  · have written : (Table.put u.slots x { u.slot x with
        state := .converting, roundTime := if (u.slot x).cursor = 0 then u.now else (u.slot x).roundTime }).get x = _ :=
      Table.get_put_self _ _ _
    refine written.trans ?_
    rw [slot_x, if_neg begun]
  · have kept : (Table.put u.slots x { u.slot x with
        state := .converting, roundTime := if (u.slot x).cursor = 0 then u.now else (u.slot x).roundTime }).get y = u.slot y :=
      Table.get_put_ne _ _ _ _ distinct
    exact (congrArg Slot.state kept).trans (congrArg Slot.state slot_y)

end Sys2Proof.Machine
end

section
/-! O45: the moments of the anchors and of the wait limit (R25 to R29, R41, R60, R61). -/

namespace Sys2Proof.Machine

theorem State.fire_of_cancel {s : State} {a : AnchorId} {x : SlotId} {tag b : Byte} {rest : List Instr}
    (pending : s.pending = .cancelAcq tag [b] :: rest) (h : s.takesAtOnce) (ht : tag ≠ 0) (hb : b.toNat = x.val)
    (ready : ((s.fireAnchor a).slot x).state = .ready) : s.fire a = s.fireAnchor a := by
  have pending' : (s.fireAnchor a).pending = .cancelAcq tag [b] :: rest := by simp [pending]
  have takes : (s.fireAnchor a).takesAtOnce := by simpa [State.takesAtOnce] using h
  exact State.settle_of_cancelNext _ ((State.cancelNext_iff pending' takes ht hb).2 ready)

theorem State.midpoint_of_off {s : State} {c : ChanId} (h : (s.chan c).state = .off) : s.midpoint c = s := if_pos h

theorem State.midpoint_of_due {s : State} {c : ChanId} (h : (s.chan c).state ≠ .off)
    (due : (s.chan c).divider ≤ (s.chan c).centreCount + 1) : s.midpoint c = s.fireCentre c := by
  have due' : (s.chan c).centreDue = true := by simpa [Channel.centreDue] using due
  rw [State.midpoint, if_neg h, if_pos due']

theorem State.midpoint_of_early {s : State} {c : ChanId} (h : (s.chan c).state ≠ .off)
    (early : (s.chan c).centreCount + 1 < (s.chan c).divider) :
    s.midpoint c = s.setChan c { s.chan c with centreCount := (s.chan c).centreCount + 1 } := by
  have early' : ¬ (s.chan c).centreDue = true := by simpa [Channel.centreDue] using early
  rw [State.midpoint, if_neg h, if_neg early']

/-- Settles O45: each moment by the test that brings it. -/
theorem pacedMoments : Obligations.PacedMoments := by
  unfold Obligations.PacedMoments
  refine ⟨fun c k u => ⟨rfl, rfl, rfl, rfl⟩, fun s a => rfl, fun s a x tag b rest => State.fire_of_cancel,
    fun s x tag b => State.cancelLast, fun s hn => ⟨?_, ?_, ?_⟩⟩
  · intro c v fires
    have mid : exec (.periodMidpoint c) s = .next (s.midpoint c) := State.live_of_nrst hn (fun s => s.midpoint c)
    have centre : exec (.centreAnchorFire c) s =
        .next (if (s.chan c).state ≠ .off ∧ (s.chan c).centreDue then s.fireCentre c else s) :=
      State.live_of_nrst hn (fun s => if (s.chan c).state ≠ .off ∧ (s.chan c).centreDue then s.fireCentre c else s)
    rw [mid, centre]
    refine ⟨fun off => ⟨?_, ?_⟩, fun on due => ⟨?_, ?_⟩, fun on early => ⟨?_, ?_⟩⟩
    · rw [State.midpoint_of_off off]
    · rw [if_neg fun both => both.1 off]
    · rw [State.midpoint_of_due on due]
      rfl
    · rw [if_pos ⟨on, by simpa [Channel.centreDue] using due⟩]
      rfl
    · rw [State.midpoint_of_early on early]
    · rw [if_neg fun both => absurd both.2 (by simpa [Channel.centreDue] using early)]
  · intro k cad
    have row : exec (.cadenceAnchorFire k) s = .next (s.fireCadence k) := State.live_of_nrst hn (fun s => s.fireCadence k)
    rw [row, State.fireCadence]
    refine ⟨fun due => ?_, fun early => ?_⟩
    · rw [if_pos ((s.cadenceDue_iff k).2 due)]
      rfl
    · rw [if_neg (mt (s.cadenceDue_iff k).1 early)]
  · intro x v elapsed
    have row : exec (.waitLimitExpiry x) s = .next (s.expireWait x) := State.live_of_nrst hn (fun s => s.expireWait x)
    rw [row, State.expireWait]
    refine ⟨fun elapsed => ?_, fun runs => ?_⟩
    · rw [if_pos ((s.waitOver_iff x).2 elapsed)]
    · rw [if_neg (mt (s.waitOver_iff x).1 runs)]

end Sys2Proof.Machine
end

section
/-! O47: an element completion (R17, R54 to R59). -/

namespace Sys2Proof.Machine

theorem State.moreUrgentReady_iff (s : State) (l : Fin 8) :
    s.moreUrgentReady l = true ↔ ∃ m : Fin 8, m < l ∧ s.level m ≠ [] := by
  have mem (m : Fin 8) : m ∈ allLevels := by revert m; decide
  simp [State.moreUrgentReady, mem]

/-- A slot that has stored the value of an element (R54). -/
def Slot.storing (v : Slot) (value : Count) : Slot :=
  { v with cursor := v.cursor + 1, partials := v.partials ++ [value] }

section
variable {s : State} {cv : Conversion}

theorem State.completeConversion_of_idle (h : s.conv = none) (value : Count) : s.completeConversion value = s := by
  simp [State.completeConversion, h]

theorem State.completeConversion_of_cancel (h : s.conv = some cv) (cancel : (s.slot cv.slot).cancel = true) (value : Count) :
    s.completeConversion value = State.settle { s.setSlot cv.slot (s.slot cv.slot).atRest with conv := none } := by
  simp [State.completeConversion, h, cancel, State.cancelledCompletion]

theorem State.completeConversion_of_going (h : s.conv = some cv) (going : (s.slot cv.slot).cancel = false) (value : Count) :
    s.completeConversion value = s.elementDone cv.slot value := by
  simp [State.completeConversion, h, going]

end

section
variable {s : State} {x : SlotId} {value : Count}

theorem State.elementDone_of_last (last : (s.slot x).defn.elements.length ≤ (s.slot x).cursor + 1) :
    s.elementDone x value = s.completeRound x ((s.slot x).partials ++ [value]) := if_pos last

theorem State.elementDone_of_more (more : (s.slot x).cursor + 1 < (s.slot x).defn.elements.length) :
    s.elementDone x value =
      if (s.slot x).defn.atomic = false ∧ (s.setSlot x ((s.slot x).storing value)).moreUrgentReady (s.slot x).defn.level then
        (s.setSlot x ((s.slot x).storing value)).yieldSlot x
      else (s.setSlot x ((s.slot x).storing value)).startElement x := if_neg (not_le.2 more)

theorem State.storing_urgent_iff (s : State) (x : SlotId) (value : Count) :
    (s.slot x).defn.atomic = false ∧
        (s.setSlot x ((s.slot x).storing value)).moreUrgentReady (s.slot x).defn.level = true ↔
      (s.slot x).defn.atomic = false ∧ ∃ m : Fin 8, m < (s.slot x).defn.level ∧ s.level m ≠ [] := by
  rw [State.moreUrgentReady_iff]
  rfl

theorem State.yieldSlot_eq (s : State) (x : SlotId) : s.yieldSlot x = State.settle
    { (s.setSlot x { s.slot x with state := .ready }).setLevel (s.slot x).defn.level
        (x :: s.level (s.slot x).defn.level) with conv := none } := by
  simp only [State.yieldSlot, State.placeReady, State.slot_setSlot_self]
  rfl

theorem State.startElement_eq {v : Slot} {e : Fin 12} (element : v.defn.elements[v.cursor]? = some e) :
    (s.setSlot x v).startElement x =
      { s.setSlot x v with conv := some { slot := x, channel := e, start := s.now, elapsed := 0 } } := by
  have channel : v.elementAtCursor = e := by simp [Slot.elementAtCursor, element]
  simp only [State.startElement, State.slot_setSlot_self, channel]
  rfl

end

/-- Settles O47: the completion branch by branch, and the cancel that stands behind it. -/
theorem conversionCompletes : Obligations.ConversionCompletes := by
  unfold Obligations.ConversionCompletes
  refine ⟨?_, fun s tag b rest y pending h ht hb => State.cancelNext_iff pending h ht hb,
    State.cancelNext_of_pending_nil, ?_⟩
  · intro s value hn
    have row : exec (.conversionComplete value) s = .next (s.completeConversion value) :=
      State.live_of_nrst hn (fun s => s.completeConversion value)
    rw [row]
    refine ⟨fun idle => by rw [State.completeConversion_of_idle idle], ?_⟩
    intro cv converting x v stored urgent
    refine ⟨fun cancel => ?_, fun going more yields => ?_, fun e going element stays => ?_, fun going last => ?_⟩
    · rw [State.completeConversion_of_cancel converting cancel]
      rfl
    · rw [State.completeConversion_of_going converting going, State.elementDone_of_more more,
        if_pos ((s.storing_urgent_iff x value).2 yields), State.yieldSlot_eq, State.slot_setSlot_self, State.setSlot_setSlot]
      rfl
    · obtain ⟨more, -⟩ := List.getElem?_eq_some_iff.1 element
      rw [State.completeConversion_of_going converting going, State.elementDone_of_more more,
        if_neg (mt (s.storing_urgent_iff x value).1 stays), State.startElement_eq (by exact element)]
      rfl
    · rw [State.completeConversion_of_going converting going, State.elementDone_of_last last]
      rfl
  · intro s x y l idle ready distinct timely begun below waiting cancelled empty tag b e h ht hb element
    exact State.cancelResumes h ht hb idle ready distinct timely begun below waiting cancelled empty element

end Sys2Proof.Machine
end

section
/-! Result rings and windows (R67, R69 to R73, R80, R81, R177). -/

namespace Sys2Proof.Machine

/-! ## An entry joins a ring -/

section
variable {s : State} {n : RingId} (e : RingEntry)

theorem State.ringWrite_of_room (room : (s.ring n).entries.length < 32) : s.ringWrite n e =
    if (s.ring n).entries.length + 1 = (s.ring n).watermark then
      (s.setRing n { s.ring n with
        entries := (s.ring n).entries ++ [e], writePos := ((s.ring n).writePos + 1) % 32 }).post .ringWatermark n.val
        (BitVec.ofNat 16 (s.ring n).watermark)
    else s.setRing n { s.ring n with
      entries := (s.ring n).entries ++ [e], writePos := ((s.ring n).writePos + 1) % 32 } := by
  have crosses : (s.ring n).crosses = true ↔ (s.ring n).entries.length + 1 = (s.ring n).watermark := by
    simp [Ring.crosses, room]
  simp only [State.ringWrite, State.postWatermark, crosses, Ring.join, room, if_true, nextPlace]

theorem State.ringWrite_of_full (full : 32 ≤ (s.ring n).entries.length) :
    s.ringWrite n e = s.setRing n ((s.ring n).join e) := by
  have crosses : (s.ring n).crosses = false := by simp [Ring.crosses, not_lt.2 full]
  simp [State.ringWrite, State.postWatermark, crosses]

theorem Ring.join_of_keep {r : Ring} (full : 32 ≤ r.entries.length) (keep : r.policy = .keep) :
    r.join e = { r with overrun := true } := by
  simp [Ring.join, not_lt.2 full, keep]

theorem Ring.join_of_overwrite {r : Ring} (full : 32 ≤ r.entries.length) (overwrite : r.policy = .overwrite) :
    r.join e = { r with
      entries := r.entries.drop 1 ++ [e], overrun := true
      writePos := (r.writePos + 1) % 32, readPos := (r.readPos + 1) % 32 } := by
  simp [Ring.join, not_lt.2 full, overwrite, nextPlace]

end

/-! ## A window check -/

section
variable {s : State} {x : SlotId} {w : Window} {values : List Count} {value : Count}

theorem Window.contains_iff (w : Window) (value : Count) :
    w.contains value = true ↔ w.low ≤ value.toNat ∧ value.toNat ≤ w.high := by
  simp [Window.contains]

theorem State.windowCheck_of_inside (h : values[w.element]? = some value)
    (inside : w.low ≤ value.toNat ∧ value.toNat ≤ w.high) : s.windowCheck x (some w) values = s := by
  have found : values.getD w.element 0 = value := by simp [h]
  simp only [State.windowCheck, found, (w.contains_iff value).2 inside, if_true]

theorem State.windowCheck_of_outside (h : values[w.element]? = some value)
    (outside : ¬ (w.low ≤ value.toNat ∧ value.toNat ≤ w.high)) : s.windowCheck x (some w) values =
      if w.trip then (s.post .window x.val (value.setWidth 16)).internalCondition windowSource
      else s.post .window x.val (value.setWidth 16) := by
  have found : values.getD w.element 0 = value := by simp [h]
  have outside' : ¬ w.contains value = true := mt (w.contains_iff value).1 outside
  simp only [State.windowCheck, found, outside', if_false, Bool.false_eq_true]

theorem State.internalCondition_of_disabled {n : SourceId} (h : (s.source n).enabled = false) :
    s.internalCondition n = s := if_pos h

end

/-- Settles O49: the entry by the room and the policy; the check by the bounds, the trip option and the source's state. -/
theorem ringEntriesAndWindows : Obligations.RingEntriesAndWindows := by
  unfold Obligations.RingEntriesAndWindows
  refine ⟨?_, ?_⟩
  · intro s n e r
    refine ⟨State.ringWrite_of_room e, fun full keep => ?_, fun full overwrite => ?_, rfl⟩
    · exact (State.ringWrite_of_full e full).trans (congrArg (s.setRing n) (Ring.join_of_keep e full keep))
    · exact (State.ringWrite_of_full e full).trans (congrArg (s.setRing n) (Ring.join_of_overwrite e full overwrite))
  · intro s x w values value h posted
    refine ⟨rfl, State.windowCheck_of_inside h, fun outside => ?_⟩
    rw [State.windowCheck_of_outside h outside]
    cases trip : w.trip with
    | false => simp [posted]
    | true =>
      cases enabled : (s.source 11).enabled with
      | false =>
        have disabled : (posted.source windowSource).enabled = false := enabled
        simp only [if_true, Bool.false_eq_true, and_false, if_false]
        exact State.internalCondition_of_disabled disabled
      | true =>
        have on : (posted.source windowSource).enabled = true := enabled
        have source : posted.source windowSource = s.source 11 := rfl
        simp only [and_self, if_true]
        rw [show (s.post .window x.val (value.setWidth 16)).internalCondition windowSource =
          posted.internalCondition windowSource from rfl, State.internalCondition]
        simp only [on, Bool.true_eq_false, if_false]
        rw [source]
        cases (s.source 11).state <;> rfl

/-! ## SET-RING and READ-RING -/

theorem RingPolicy.ofCode_of_le {n : Nat} (h : n ≤ 1) : RingPolicy.ofCode n = some (if n = 0 then .overwrite else .keep) := by
  obtain rfl | rfl : n = 0 ∨ n = 1 := by omega
  · rfl
  · rfl

theorem RingPolicy.ofCode_of_gt {n : Nat} (h : ¬ n ≤ 1) : RingPolicy.ofCode n = none := by
  unfold RingPolicy.ofCode
  split
  · omega
  · omega
  · rfl

theorem takeSetRing_badArg {b policy watermark : Byte} (hb : b.toNat ≤ 7)
    (bad : ¬ (policy.toNat ≤ 1 ∧ 1 ≤ watermark.toNat ∧ watermark.toNat ≤ 32)) (s : State) :
    takeSetRing [b, policy, watermark] s = s.refuse .badArg [b] := by
  have number : unitNumber (u8 [b, policy, watermark] 0) 8 = some ⟨b.toNat, by omega⟩ :=
    unitNumber_eq_some (show b.toNat < 8 by omega)
  by_cases code : policy.toNat ≤ 1
  · have outside : inRange 1 32 (u8 [b, policy, watermark] 2) = none := inRange_of_not_mem fun fits => bad ⟨code, fits⟩
    simp only [takeSetRing, number, outside]
    cases RingPolicy.ofCode (u8 [b, policy, watermark] 1) <;> rfl
  · have unknown : RingPolicy.ofCode (u8 [b, policy, watermark] 1) = none := RingPolicy.ofCode_of_gt code
    simp only [takeSetRing, number, unknown]
    rfl

theorem takeSetRing_accepted {b policy watermark : Byte} {n : RingId} (hb : b.toNat = n.val)
    (code : policy.toNat ≤ 1) (fits : 1 ≤ watermark.toNat ∧ watermark.toNat ≤ 32) (s : State) :
    takeSetRing [b, policy, watermark] s =
      { state := s.setRing n { s.ring n with
          policy := if policy.toNat = 0 then .overwrite else .keep, watermark := watermark.toNat }
        result := .ok
        fields := out8 n.val ++ out8 (RingPolicy.code (if policy.toNat = 0 then .overwrite else .keep)) ++
          out8 watermark.toNat ++ out8 (s.ring n).entries.length } := by
  have number : unitNumber (u8 [b, policy, watermark] 0) 8 = some n := unitNumber_val hb
  have named : RingPolicy.ofCode (u8 [b, policy, watermark] 1) = some (if policy.toNat = 0 then .overwrite else .keep) :=
    RingPolicy.ofCode_of_le code
  have inside : inRange 1 32 (u8 [b, policy, watermark] 2) = some watermark.toNat := inRange_of_mem fits
  simp only [takeSetRing, number, named, inside]

/-- Settles O50: the number, the checks, the write. -/
theorem setRingWritesPolicyAndWatermark : Obligations.SetRingWritesPolicyAndWatermark := by
  unfold Obligations.SetRingWritesPolicyAndWatermark
  intro s tag b policy watermark h ht good
  refine ⟨fun large => ?_, fun below bad => ?_, fun n hb hgood => ?_⟩
  · exact exec_row_refused h .setRing ht rfl
      (RequestKind.take_noSuch (units := 8) (by simp) (p := [b, policy, watermark]) large _)
  · exact exec_row_refused h .setRing ht rfl (takeSetRing_badArg below bad _)
  · obtain ⟨code, fits⟩ := hgood
    have zero_iff : policy.toNat = 0 ↔ policy = 0 := by simp [BitVec.toNat_eq]
    have fields : out8 n.val ++ out8 (RingPolicy.code (if policy.toNat = 0 then .overwrite else .keep)) ++
        out8 watermark.toNat ++ out8 (s.seeHigh.ring n).entries.length =
        [b, policy, watermark, BitVec.ofNat 8 (s.ring n).entries.length] := by
      have number : BitVec.ofNat 8 n.val = b := by rw [← hb, BitVec.ofNat_toNat, BitVec.setWidth_eq]
      have mark : BitVec.ofNat 8 watermark.toNat = watermark := by rw [BitVec.ofNat_toNat, BitVec.setWidth_eq]
      have byte : BitVec.ofNat 8 (RingPolicy.code (if policy.toNat = 0 then .overwrite else .keep)) = policy := by
        apply BitVec.eq_of_toNat_eq
        split
        · next zero => rw [zero]; rfl
        · next one => rw [show policy.toNat = 1 by omega]; rfl
      simp only [out8, number, mark, byte]
      rfl
    have taken := takeSetRing_accepted hb code fits s.seeHigh
    rw [fields] at taken
    simp only [zero_iff] at taken
    exact exec_row_reply h .setRing ht rfl taken

theorem takeReadRing_badArg {k : Byte} {n : RingId} (bad : k = 0 ∨ 10 < k.toNat) (s : State) :
    takeReadRing [BitVec.ofNat 8 n.val, k] s = s.refuse .badArg [BitVec.ofNat 8 n.val] := by
  have number : unitNumber (u8 [BitVec.ofNat 8 n.val, k] 0) 8 = some n := unitNumber_val (u8_ofNat (by omega) _)
  have outside : inRange 1 10 (u8 [BitVec.ofNat 8 n.val, k] 1) = none := by
    refine inRange_of_not_mem fun fits => ?_
    obtain ⟨low, high⟩ : 1 ≤ k.toNat ∧ k.toNat ≤ 10 := fits
    rcases bad with rfl | large
    · exact absurd low (by decide)
    · omega
  simp only [takeReadRing, number, outside]
  rfl

theorem takeReadRing_accepted {k : Byte} {n : RingId} (positive : k ≠ 0) (small : k.toNat ≤ 10) (s : State) :
    takeReadRing [BitVec.ofNat 8 n.val, k] s =
      { state := s.setRing n ((s.ring n).readOut k.toNat), result := .ok, fields := (s.ring n).readReport n k.toNat } := by
  have number : unitNumber (u8 [BitVec.ofNat 8 n.val, k] 0) 8 = some n := unitNumber_val (u8_ofNat (by omega) _)
  have fits : 1 ≤ k.toNat ∧ k.toNat ≤ 10 := ⟨by bv_omega, small⟩
  have inside : inRange 1 10 (u8 [BitVec.ofNat 8 n.val, k] 1) = some k.toNat := inRange_of_mem fits
  simp only [takeReadRing, number, inside]

theorem RingEntry.bytes_eq (e : RingEntry) : e.bytes =
    [BitVec.ofNat 8 (e.slot.val + if e.status = .missed then 128 else 0)] ++ out16 e.number.toNat ++
      out32 e.roundTime.toNat ++ [BitVec.ofNat 8 e.values.length] ++ e.values.flatMap (fun v => out16 v.toNat) := by
  have head : e.headByte = BitVec.ofNat 8 (e.slot.val + if e.status = .missed then 128 else 0) := by
    simp [RingEntry.headByte, bitOf]
  rw [RingEntry.bytes, head]
  rfl

/-- Settles O51: the bytes of an entry; the check of the count; the removal and its report. -/
theorem readRingRemovesOldest : Obligations.ReadRingRemovesOldest := by
  unfold Obligations.ReadRingRemovesOldest
  refine ⟨RingEntry.bytes_eq, ?_⟩
  intro s tag k n h ht number r
  refine ⟨fun bad => exec_row_refused h .readRing ht rfl (takeReadRing_badArg bad _), fun positive small => ?_⟩
  have taken := takeReadRing_accepted (n := n) positive small s.seeHigh
  have ring : s.seeHigh.ring n = r := rfl
  have report : r.readReport n k.toNat = [number, BitVec.ofNat 8 (min k.toNat r.entries.length)] ++
      (r.entries.take k.toNat).flatMap RingEntry.bytes ++
      [BitVec.ofNat 8 (r.entries.length - k.toNat), if r.overrun then 1 else 0] := by
    simp [Ring.readReport, out8, outFlag_eq, number]
  have left : r.readOut k.toNat = { r with
      entries := r.entries.drop k.toNat, overrun := false
      readPos := (r.readPos + min k.toNat r.entries.length) % 32 } := by
    simp [Ring.readOut]
  rw [ring, report, left] at taken
  exact exec_row_reply h .readRing ht rfl taken

end Sys2Proof.Machine
end

section
/-! Counted edges (R144 to R147). -/

namespace Sys2Proof.Machine

/-! ## A counted edge -/

theorem Counter.wraps_iff (k : Counter) : k.wraps = true ↔ k.tallyLimit ≠ 0 ∧ k.tallyLimit ≤ k.tally + 1 := by
  simp [Counter.wraps]

theorem Counter.wraps_eq_false_iff (k : Counter) :
    k.wraps = false ↔ ¬ (k.tallyLimit ≠ 0 ∧ k.tallyLimit ≤ k.tally + 1) := by
  rw [← k.wraps_iff, Bool.not_eq_true]

section
variable {s : State} {u : UnitId} (up : Bool)

theorem State.countEdge_of_unlimited (h : (s.counter u).tallyLimit = 0) : s.countEdge u up =
    s.setCounter u { s.counter u with
      position := stepPosition (s.counter u).position up
      quietStart := if (s.counter u).armed then s.now else (s.counter u).quietStart } := by
  have stays : (s.counter u).wraps = false := (Counter.wraps_eq_false_iff _).2 (fun w => w.1 h)
  simp [State.countEdge, State.wrapTally, stays, Counter.counted, Counter.nextTally, h]

theorem State.countEdge_of_below (h : (s.counter u).tally + 1 < (s.counter u).tallyLimit) : s.countEdge u up =
    s.setCounter u { s.counter u with
      position := stepPosition (s.counter u).position up
      tally := (s.counter u).tally + 1
      quietStart := if (s.counter u).armed then s.now else (s.counter u).quietStart } := by
  have stays : (s.counter u).wraps = false := (Counter.wraps_eq_false_iff _).2 (fun w => absurd w.2 (not_le.2 h))
  have limited : (s.counter u).tallyLimit ≠ 0 := by omega
  simp [State.countEdge, State.wrapTally, stays, Counter.counted, Counter.nextTally, limited]

theorem State.countEdge_of_wraps (h : (s.counter u).tallyLimit ≠ 0 ∧ (s.counter u).tallyLimit ≤ (s.counter u).tally + 1) :
    s.countEdge u up =
      ((s.setCounter u { s.counter u with
        position := stepPosition (s.counter u).position up
        tally := 0
        quietStart := if (s.counter u).armed then s.now else (s.counter u).quietStart }).post .tally u.val
          ((stepPosition (s.counter u).position up).setWidth 16)).fire (tallyAnchor u) := by
  have wraps : (s.counter u).wraps = true := (Counter.wraps_iff _).2 h
  simp [State.countEdge, State.wrapTally, wraps, Counter.counted, Counter.nextTally, h.1, lowPosition]

end

/-! ## The decoders -/

section
variable {s : State} {d : Fin 2} {p : LinePair}

theorem LinePair.eq_iff (p q : LinePair) : p = q ↔ p.a = q.a ∧ p.b = q.b := by
  cases p; cases q; simp

theorem State.decode_of_same (h : p = (s.decoder d).last) : s.decode d p = s := if_pos h

theorem State.decode_of_next (h : p = (s.decoder d).last.next) :
    s.decode d p = (s.takePair d p).countEdge (unitOfDecoder d) true := by
  have moves : ∀ last : LinePair, last.next ≠ last := by rintro ⟨_ | _, _ | _⟩ <;> decide
  simp only [State.decode, h, moves, if_false, if_true]

theorem State.decode_of_prev (h : p = (s.decoder d).last.prev) :
    s.decode d p = (s.takePair d p).countEdge (unitOfDecoder d) false := by
  have moves : ∀ last : LinePair, last.prev ≠ last ∧ last.prev ≠ last.next := by rintro ⟨_ | _, _ | _⟩ <;> decide
  simp only [State.decode, h, moves, if_false, if_true]

theorem State.decode_of_both (a : p.a = !(s.decoder d).last.a) (b : p.b = !(s.decoder d).last.b) :
    s.decode d p = (s.takePair d p).illegalStep d := by
  have moves : ∀ last : LinePair, (LinePair.mk (!last.a) (!last.b) : LinePair) ≠ last ∧
      LinePair.mk (!last.a) (!last.b) ≠ last.next ∧ LinePair.mk (!last.a) (!last.b) ≠ last.prev := by
    rintro ⟨_ | _, _ | _⟩ <;> decide
  have pair : p = LinePair.mk (!(s.decoder d).last.a) (!(s.decoder d).last.b) := by rw [← a, ← b]
  simp only [State.decode, pair, moves, if_false]

theorem State.setDecoder_setDecoder (s : State) (d : Fin 2) (v w : Decoder) :
    (s.setDecoder d v).setDecoder d w = s.setDecoder d w := by
  simp [State.setDecoder, Table.put]

theorem State.illegalStep_takePair : (s.takePair d p).illegalStep d =
    (s.setDecoder d { last := p, countError := true }).post .countError d.val
      ((s.counter (unitOfDecoder d)).position.setWidth 16) := by
  rw [State.illegalStep, State.takePair, State.decoder_setDecoder_self, State.setDecoder_setDecoder]
  rfl

theorem exec_quadratureStep (hn : s.pins.nrst = true) {a b : Bool} {t : State}
    (sees : (s.setLines d { a, b }).decode d { a, b } = t) : exec (.quadratureStep d a b) s = .next t := by
  have row : exec (.quadratureStep d a b) s =
    .next (if s.pins.nrst then s.quadrature d { a, b } else s.setLines d { a, b }) := rfl
  rw [row, if_pos hn, State.quadrature, sees]

end

/-! ## An edge that wraps the tally -/

theorem State.wrappingEdge_of_room {s : State} {u : UnitId} (up : Bool) (h : (s.counter u).wraps = false) :
    s.wrappingEdge u up = s := if_pos h

theorem State.wrappingEdge_of_decoder {s : State} {d : Fin 2} (up : Bool)
    (h : (s.counter (unitOfDecoder d)).wraps = true) :
    s.wrappingEdge (unitOfDecoder d) up = s.quadrature d ((s.decoder d).last.moved up) := by
  have room : ¬ (s.counter (unitOfDecoder d)).wraps = false := by simp [h]
  match d with
  | 0 => exact if_neg room
  | 1 => exact if_neg room

/-- Settles O57: the tally by its limit, the lines by what of them changed, TALLY_WRAP by the unit. -/
theorem countedEdgesMoveUnits : Obligations.CountedEdgesMoveUnits := by
  unfold Obligations.CountedEdgesMoveUnits
  have tachRow {s : State} (hn : s.pins.nrst = true) : exec .tachEdge s = .next (s.countEdge 2 true) :=
    State.live_of_nrst hn (fun s => s.countEdge 2 true)
  refine ⟨fun d => rfl, ?_, ?_, fun s hn => tachRow hn, ?_⟩
  · intro s u up k position edge
    exact ⟨State.countEdge_of_unlimited up, State.countEdge_of_below up,
      fun limited reached => State.countEdge_of_wraps up ⟨limited, reached⟩⟩
  · intro s d a b hn last lines moved
    refine ⟨fun ha hb => ?_, fun ⟨ha, hb⟩ => ?_, fun ⟨ha, hb⟩ => ?_, fun ⟨ha, hb⟩ => ?_⟩
    · exact exec_quadratureStep hn (State.decode_of_same ((LinePair.eq_iff _ _).2 ⟨ha, hb⟩))
    · exact exec_quadratureStep hn (State.decode_of_next ((LinePair.eq_iff _ _).2 ⟨ha, hb⟩))
    · exact exec_quadratureStep hn (State.decode_of_prev ((LinePair.eq_iff _ _).2 ⟨ha, hb⟩))
    · exact exec_quadratureStep hn ((State.decode_of_both ha hb).trans State.illegalStep_takePair)
  · intro s u up hn k wraps
    have row : exec (.tallyWrap u up) s = .next (s.wrappingEdge u up) :=
      State.live_of_nrst hn (fun s => s.wrappingEdge u up)
    refine ⟨fun room => ?_, fun d full hu => ?_, fun full hu hup => ?_⟩
    · rw [row, State.wrappingEdge_of_room up ((Counter.wraps_eq_false_iff k).2 room)]
    · subst hu
      rw [row, State.wrappingEdge_of_decoder up ((Counter.wraps_iff k).2 full)]
      cases up with
      | true => exact (exec_quadratureStep hn rfl).symm
      | false => exact (exec_quadratureStep hn rfl).symm
    · subst hu hup
      have full' : ¬ (s.counter 2).wraps = false := by simp [(Counter.wraps_iff (s.counter 2)).2 full]
      have counts : s.wrappingEdge 2 true = s.countEdge 2 true := if_neg full'
      rw [row, tachRow hn, counts]

end Sys2Proof.Machine
end

section
/-! Internal conditions, grace and stall (R131, R132, R148 to R150). -/

namespace Sys2Proof.Machine

/-! ## The condition of an internal source -/

section
variable {s : State} {n : SourceId}

theorem State.internalCondition_of_inactive (enabled : (s.source n).enabled = true)
    (state : (s.source n).state = .inactive) :
    s.internalCondition n = (s.setSource n { s.source n with state := .latched }).tripWork n := by
  simp [State.internalCondition, enabled, state, State.tripInternal]

theorem State.internalCondition_of_latched (enabled : (s.source n).enabled = true)
    (state : (s.source n).state = .latched) :
    s.internalCondition n = s.post .guardTrip n.val (s.epoch ++ BitVec.ofNat 8 (s.source n).action.code) := by
  simp [State.internalCondition, enabled, state, tripDetail]

end

/-! ## The magnitude handed to a unit -/

section
variable {k : Counter} {before u : Nat} {now : Stamp}

theorem Counter.handed_of_zero (h : u = 0) : k.handed before u now = { k with armed := false, lockout := false } :=
  if_pos h

/-- A rise from 0 that finds the unit unarmed and not locked out (R148). -/
theorem Counter.handed_of_rise (h : u ≠ 0) (rise : before = 0 ∧ k.armed = false ∧ k.lockout = false) :
    k.handed before u now =
      if k.grace = 0 then { k with graceStart := now, armed := true, quietStart := now }
      else { k with graceStart := now } := by
  rw [Counter.handed, if_neg h, if_pos rise]
  rfl

theorem Counter.handed_of_kept (h : u ≠ 0) (kept : ¬ (before = 0 ∧ k.armed = false ∧ k.lockout = false)) :
    k.handed before u now = k := by
  rw [Counter.handed, if_neg h, if_neg kept]

end

theorem State.disarmStalled_eq (s : State) (u : UnitId) : s.disarmStalled u = s.setCounter u { s.counter u with
    armed := false, lockout := (s.counter u).lockout || decide ((s.chan (chanOf u)).mag ≠ 0) } := by
  rw [State.disarmStalled, State.watched, bne_eq_decide_ne]

/-- Settles O58: the source by its state; the timers by their moments; the magnitude handed on by what it rises from. -/
theorem graceArmsAndQuietStalls : Obligations.GraceArmsAndQuietStalls := by
  unfold Obligations.GraceArmsAndQuietStalls
  refine ⟨?_, ?_, ?_, ?_⟩
  · exact fun u => ⟨rfl, rfl, rfl, unitOf_eq_some_iff.2 rfl, rfl⟩
  · exact fun s n _ => ⟨State.internalCondition_of_disabled, State.internalCondition_of_inactive,
      State.internalCondition_of_latched⟩
  · intro s u hn k mag grace quiet
    have graceRow : exec (.graceExpiry u) s = .next (s.expireGrace u) := State.live_of_nrst hn (fun s => s.expireGrace u)
    have stallRow : exec (.stall u) s = .next (s.detectStall u) := State.live_of_nrst hn (fun s => s.detectStall u)
    refine ⟨fun elapsed => ?_, fun stays => ?_, fun elapsed => ?_, fun stays => ?_⟩
    · rw [graceRow, State.expireGrace, if_pos ((s.graceOver_iff u).2 elapsed)]
      rfl
    · rw [graceRow, State.expireGrace, if_neg (mt (s.graceOver_iff u).1 stays)]
    · intro taken
      rw [stallRow, State.detectStall, if_pos ((s.quietOver_iff u).2 elapsed)]
      exact congrArg Host.Outcome.next (taken.disarmStalled_eq u)
    · rw [stallRow, State.detectStall, if_neg (mt (s.quietOver_iff u).1 stays)]
  · intro k before u now
    refine ⟨Counter.handed_of_zero, fun hu hb ha hl => ⟨fun g => ?_, fun g => ?_⟩, fun hu kept => ?_⟩
    · rw [Counter.handed_of_rise hu ⟨hb, ha, hl⟩, if_pos g]
    · rw [Counter.handed_of_rise hu ⟨hb, ha, hl⟩, if_neg g]
    · refine Counter.handed_of_kept hu (fun ⟨hb, ha, hl⟩ => ?_)
      simp [hb, ha, hl] at kept

end Sys2Proof.Machine
end

section
/-! SET-COUNTER and READ-COUNTERS (R151, R152, R178). -/

namespace Sys2Proof.Machine

/-! ## The payload of SET-COUNTER -/

theorem CounterWrite.ofPayload_eq_some_iff (p : List Byte) (w : CounterWrite) :
    CounterWrite.ofPayload p = some w ↔
      u8 p 1 < 16 ∧ whenSelected (u8 p 1) 0 (some (BitVec.ofNat 32 (u32 p 2))) = some w.position ∧
      whenSelected (u8 p 1) 1 (some (u16 p 6)) = some w.tallyLimit ∧
      whenSelected (u8 p 1) 2 (quietTimeOf (u16 p 8)) = some w.quiet ∧
      whenSelected (u8 p 1) 3 (inRange 0 2000 (u16 p 10)) = some w.grace := by
  simp only [CounterWrite.ofPayload]
  split
  · next h => exact ⟨fun h => absurd h (by simp), fun h' => absurd h'.1 (by omega)⟩
  · next h =>
    simp only [Option.bind_eq_bind, Option.bind_eq_some_iff, Option.pure_def, Option.some.injEq]
    constructor
    · rintro ⟨_, h0, _, h1, _, h2, _, h3, rfl⟩
      exact ⟨by omega, h0, h1, h2, h3⟩
    · rintro ⟨-, h0, h1, h2, h3⟩
      exact ⟨_, h0, _, h1, _, h2, _, h3, rfl⟩

theorem quietTimeOf_of_mem {n : Nat} (h : n = 0 ∨ (10 ≤ n ∧ n ≤ 2000)) : quietTimeOf n = some n := by
  unfold quietTimeOf
  split
  · next zero => rw [zero]
  · next positive => exact inRange_of_mem (h.resolve_left positive)

theorem quietTimeOf_of_not_mem {n : Nat} (h : ¬ (n = 0 ∨ (10 ≤ n ∧ n ≤ 2000))) : quietTimeOf n = none := by
  obtain ⟨positive, out⟩ := not_or.1 h
  rw [quietTimeOf, if_neg positive, inRange_of_not_mem out]

/-- The value check of SET-COUNTER: the selected fields, each in its range. -/
def counterFieldsFit (p : List Byte) : Prop :=
  u8 p 1 < 16 ∧ ((u8 p 1).testBit 2 = true → u16 p 8 = 0 ∨ (10 ≤ u16 p 8 ∧ u16 p 8 ≤ 2000)) ∧
    ((u8 p 1).testBit 3 = true → u16 p 10 ≤ 2000)

/-- The fields the selection of a SET-COUNTER names. -/
def selectedFields (p : List Byte) : CounterWrite :=
  { position := if (u8 p 1).testBit 0 = true then some (BitVec.ofNat 32 (u32 p 2)) else none
    tallyLimit := if (u8 p 1).testBit 1 = true then some (u16 p 6) else none
    quiet := if (u8 p 1).testBit 2 = true then some (u16 p 8) else none
    grace := if (u8 p 1).testBit 3 = true then some (u16 p 10) else none }

theorem CounterWrite.ofPayload_iff (p : List Byte) (w : CounterWrite) :
    CounterWrite.ofPayload p = some w ↔ counterFieldsFit p ∧ w = selectedFields p := by
  rw [CounterWrite.ofPayload_eq_some_iff, whenSelected_any, whenSelected_any,
    whenSelected_checked quietTimeOf_of_mem quietTimeOf_of_not_mem, whenSelected_inRange]
  constructor
  · rintro ⟨small, w0, w1, ⟨quiet, w2⟩, grace, w3⟩
    exact ⟨⟨small, quiet, fun selected => (grace selected).2⟩, by cases w; simp_all [selectedFields]⟩
  · rintro ⟨⟨small, quiet, grace⟩, rfl⟩
    exact ⟨small, rfl, rfl, ⟨quiet, rfl⟩, fun selected => ⟨Nat.zero_le _, grace selected⟩, rfl⟩

theorem CounterWrite.ofPayload_of_fit {p : List Byte} (h : counterFieldsFit p) :
    CounterWrite.ofPayload p = some (selectedFields p) := (CounterWrite.ofPayload_iff p _).2 ⟨h, rfl⟩

theorem CounterWrite.ofPayload_of_unfit {p : List Byte} (h : ¬ counterFieldsFit p) : CounterWrite.ofPayload p = none :=
  Option.eq_none_iff_forall_ne_some.2 (fun w hw => h ((CounterWrite.ofPayload_iff p w).1 hw).1)

/-! ## The write -/

theorem getD_ite {α : Type} (selected : Prop) [Decidable selected] (a b : α) :
    (if selected then some a else none).getD b = if selected then a else b := by
  split <;> rfl

theorem Counter.written_selectedFields (k : Counter) (p : List Byte) (now : Stamp) :
    k.written (selectedFields p) now = { k with
      position := if (u8 p 1).testBit 0 = true then BitVec.ofNat 32 (u32 p 2) else k.position
      tallyLimit := if (u8 p 1).testBit 1 = true then u16 p 6 else k.tallyLimit
      tally := if (u8 p 1).testBit 1 = true ∧
        (if (u8 p 1).testBit 1 = true then u16 p 6 else k.tallyLimit) ≤ k.tally then 0 else k.tally
      quiet := if (u8 p 1).testBit 2 = true then u16 p 8 else k.quiet
      quietStart := if (u8 p 1).testBit 2 = true ∧ k.armed = true ∧ u16 p 8 ≠ 0 then now else k.quietStart
      grace := if (u8 p 1).testBit 3 = true then u16 p 10 else k.grace } := by
  have tally : (k.written (selectedFields p) now).tally = if (u8 p 1).testBit 1 = true ∧
      (if (u8 p 1).testBit 1 = true then u16 p 6 else k.tallyLimit) ≤ k.tally then 0 else k.tally := by
    by_cases selected : (u8 p 1).testBit 1 = true
    · by_cases above : k.tally < u16 p 6
      · simp [Counter.written, selectedFields, selected, tallyUnder, above]
      · simp [Counter.written, selectedFields, selected, tallyUnder, above, not_lt.1 above]
    · simp [Counter.written, selectedFields, selected]
  have quietStart : (k.written (selectedFields p) now).quietStart =
      if (u8 p 1).testBit 2 = true ∧ k.armed = true ∧ u16 p 8 ≠ 0 then now else k.quietStart := by
    by_cases selected : (u8 p 1).testBit 2 = true
    · simp [Counter.written, selectedFields, selected]
    · simp [Counter.written, selectedFields, selected]
  rw [← tally, ← quietStart]
  simp only [Counter.written, selectedFields, getD_ite]

theorem State.setCounter_setCounter (s : State) (u : UnitId) (v w : Counter) :
    (s.setCounter u v).setCounter u w = s.setCounter u w := by
  simp [State.setCounter, Table.put]

section
variable {s : State} {u : UnitId} {k : Counter}

theorem State.expireGrace_setCounter_of_over (h : (s.setCounter u k).graceOver u = true) :
    (s.setCounter u k).expireGrace u = s.setCounter u (k.arm s.now) := by
  rw [State.expireGrace, if_pos h, State.counter_setCounter_self, State.setCounter_setCounter]
  rfl

theorem State.graceOver_setCounter_iff : (s.setCounter u k).graceOver u = true ↔
    (s.chan (chanOf u)).mag ≠ 0 ∧ k.armed = false ∧ k.lockout = false ∧
      (k.graceStart + BitVec.ofNat 32 (k.grace * 1000) - s.now).toInt ≤ 0 := by
  rw [State.graceOver_iff, State.counter_setCounter_self]
  rfl

variable {p : List Byte} (hu : u8 p 0 = u.val)
include hu

theorem takeSetCounter_badArg (bad : ¬ counterFieldsFit p) : takeSetCounter p s = s.refuse .badArg [byteAt p 0] := by
  simp [takeSetCounter, unitNumber_val hu, CounterWrite.ofPayload_of_unfit bad]

theorem takeSetCounter_accepted (good : counterFieldsFit p) (left : s.writeCounter u (selectedFields p) = s.setCounter u k) :
    takeSetCounter p s = { state := s.setCounter u k, result := .ok, fields := (s.setCounter u k).counterReport u } := by
  simp [takeSetCounter, unitNumber_val hu, CounterWrite.ofPayload_of_fit good, left]

theorem counterReport_setCounter : (s.setCounter u k).counterReport u =
    byteAt p 0 :: (out32 k.position.toNat ++ out16 k.tally ++ out16 k.tallyLimit ++ out16 k.quiet ++ out16 k.grace ++
      [if k.armed then 1 else 0]) := by
  rw [State.counterReport, State.counter_setCounter_self, outFlag_eq, ← ofNat_u8, hu]
  rfl

end

/-- Settles O59: the value check, the write of the selected fields, the grace compared. -/
theorem setCounterWritesFields : Obligations.SetCounterWritesFields := by
  unfold Obligations.SetCounterWritesFields
  intro s tag p u h ht hp hu k sel good limit w arms left
  have write : s.seeHigh.writeCounter u (selectedFields p) = (s.seeHigh.setCounter u w).compareGrace u (sel 3) := by
    have written : (s.seeHigh.counter u).written (selectedFields p) s.seeHigh.now = w :=
      Counter.written_selectedFields k p s.now
    have selected : (selectedFields p).grace.isSome = sel 3 := by
      cases bit : sel 3 with
      | true => simp only [selectedFields, show (u8 p 1).testBit 3 = true from bit, if_true, Option.isSome_some]
      | false => simp [selectedFields, show (u8 p 1).testBit 3 = false from bit]
    rw [State.writeCounter, written, selected]
  have reply (fits : good) (v : Counter) (wrote : s.seeHigh.writeCounter u (selectedFields p) = s.seeHigh.setCounter u v) :
      exec (.setCounter tag p) s = left v := by
    refine (exec_row_reply h .setCounter ht hp (takeSetCounter_accepted hu fits wrote)).trans ?_
    dsimp only
    rw [counterReport_setCounter hu]
    rfl
  refine ⟨fun bad => exec_row_refused h .setCounter ht hp (takeSetCounter_badArg hu bad), fun fits stays => ?_,
    fun fits armed => ?_⟩
  · refine reply fits w (write.trans ?_)
    cases bit : sel 3 with
    | false => rfl
    | true =>
      have running : ¬ (s.seeHigh.setCounter u w).graceOver u = true := by
        intro elapsed
        have due := (State.graceOver_setCounter_iff (s := s.seeHigh) (k := w)).1 elapsed
        exact stays ⟨bit, due⟩
      exact if_neg running
  · obtain ⟨bit, elapsed⟩ := armed
    refine reply fits _ (write.trans ?_)
    rw [bit]
    exact State.expireGrace_setCounter_of_over (State.graceOver_setCounter_iff.2 elapsed)

/-! ## READ-COUNTERS -/

theorem State.unitReport_eq (s : State) (u : UnitId) : s.unitReport u =
    out32 (s.counter u).position.toNat ++ out16 (s.counter u).tally ++
      [BitVec.ofNat 8 ((if (s.counter u).armed then 1 else 0) + if s.countErrorOf u then 2 else 0)] := rfl

/-- Settles O60: the three reports in order. -/
theorem readCountersReportsUnits : Obligations.ReadCountersReportsUnits := by
  unfold Obligations.ReadCountersReportsUnits
  intro s tag h ht unit
  have units : takeReadCounters [] s.seeHigh =
      { state := s.seeHigh, result := .ok
        fields := unit 0 (s.decoders.get 0).countError ++
          unit 1 (s.decoders.get 1).countError ++ unit 2 false } := by
    have order : allUnits = [0, 1, 2] := rfl
    rw [takeReadCounters, order]
    simp only [List.flatMap_cons, List.flatMap_nil, List.append_nil, ← List.append_assoc]
    rfl
  exact exec_row_reply h .readCounters ht rfl units

end Sys2Proof.Machine
end

section
/-! The guard pins (R125, R128 to R130) and CLEAR-TRIP (R137, R138). -/

namespace Sys2Proof.Machine

/-! ## A pin at its asserted level -/

section
variable {s : State} {g : Fin 8}

theorem State.pinAsserted_pinSource_iff : s.pinAsserted (pinSource g) = true ↔
    s.pins.gin.get g = (s.source (pinSource g)).activeHigh := by
  simp [State.pinAsserted, Source.assertedBy]

theorem State.assertPin_of_seen (h : (s.source (pinSource g)).enabled = true ∧ (s.source (pinSource g)).state = .inactive) :
    s.assertPin g = (s.setGin g (s.source (pinSource g)).activeHigh).seeAsserted (pinSource g) := if_pos h

theorem State.assertPin_of_ignored
    (h : ¬ ((s.source (pinSource g)).enabled = true ∧ (s.source (pinSource g)).state = .inactive)) :
    s.assertPin g = s.setGin g (s.source (pinSource g)).activeHigh := if_neg h

theorem State.seeAsserted_of_unqualified {n : SourceId} (h : (s.source n).qualification = 0) :
    s.seeAsserted n = s.tripPin n := if_pos h

theorem State.seeAsserted_of_qualified {n : SourceId} (h : (s.source n).qualification ≠ 0) :
    s.seeAsserted n = s.qualify n := if_neg h

/-! ## A pin at its other level -/

theorem State.deassertPin_of_qualifying (h : (s.source (pinSource g)).state = .qualifying) : s.deassertPin g =
    (s.setGin g (!(s.source (pinSource g)).activeHigh)).setSource (pinSource g)
      { s.source (pinSource g) with state := .inactive } := by
  simp only [State.deassertPin, h]

theorem State.deassertPin_of_tripped (h : (s.source (pinSource g)).state = .tripped) : s.deassertPin g =
    ((s.setGin g (!(s.source (pinSource g)).activeHigh)).setSource (pinSource g)
      { s.source (pinSource g) with state := .latched }).post .guardReleased g.val
        (BitVec.ofNat 16 ((s.source (pinSource g)).heldMillis s.now)) := by
  simp only [State.deassertPin, h]
  rfl

theorem State.deassertPin_of_resting
    (h : (s.source (pinSource g)).state = .inactive ∨ (s.source (pinSource g)).state = .latched) :
    s.deassertPin g = s.setGin g (!(s.source (pinSource g)).activeHigh) := by
  rcases h with h | h
  · simp only [State.deassertPin, h]
  · simp only [State.deassertPin, h]

/-! ## The rows -/

theorem exec_guardPinAssert (hn : s.pins.nrst = true) {t : State} (sees : s.assertPin g = t) :
    exec (.guardPinAssert g) s = .next t := by
  have row : exec (.guardPinAssert g) s =
    .next (if s.pins.nrst then s.assertPin g else s.setGin g (s.source (pinSource g)).activeHigh) := rfl
  rw [row, if_pos hn, sees]

theorem exec_guardPinDeassert (hn : s.pins.nrst = true) {t : State} (sees : s.deassertPin g = t) :
    exec (.guardPinDeassert g) s = .next t := by
  have row : exec (.guardPinDeassert g) s =
    .next (if s.pins.nrst then s.deassertPin g else s.setGin g (!(s.source (pinSource g)).activeHigh)) := rfl
  rw [row, if_pos hn, sees]

/-- Settles O54: the levels by the source's state, the qualification by its moment. -/
theorem guardPinsQualifyAndTrip : Obligations.GuardPinsQualifyAndTrip := by
  unfold Obligations.GuardPinsQualifyAndTrip
  refine ⟨fun g => rfl, ?_⟩
  intro s g hn n v pin trips
  refine ⟨fun enabled state => ⟨fun unqualified => ?_, fun qualified => ?_⟩, fun ignored => ?_, fun state => ?_, fun state => ?_,
    fun state => ?_, ?_⟩
  · exact exec_guardPinAssert hn
      ((State.assertPin_of_seen ⟨enabled, state⟩).trans (State.seeAsserted_of_unqualified unqualified))
  · exact exec_guardPinAssert hn
      ((State.assertPin_of_seen ⟨enabled, state⟩).trans (State.seeAsserted_of_qualified qualified))
  · refine exec_guardPinAssert hn (State.assertPin_of_ignored (fun ⟨enabled, state⟩ => ?_))
    exact ignored.elim (fun disabled => absurd (enabled.symm.trans disabled) (by decide)) (fun busy => busy state)
  · exact exec_guardPinDeassert hn (State.deassertPin_of_qualifying state)
  · exact exec_guardPinDeassert hn (State.deassertPin_of_tripped state)
  · exact exec_guardPinDeassert hn (State.deassertPin_of_resting state)
  · intro elapsed
    have row : exec (.qualificationExpiry g) s = .next (s.expireQualification g) :=
      State.live_of_nrst hn (fun s => s.expireQualification g)
    have due : ((s.source n).state = .qualifying ∧ s.pinAsserted n = true ∧ s.qualificationOver n = true) ↔ elapsed :=
      and_congr Iff.rfl (and_congr State.pinAsserted_pinSource_iff (s.qualificationOver_iff n))
    refine ⟨fun ran => ?_, fun stays => ?_⟩
    · exact row.trans (congrArg Host.Outcome.next (if_pos (due.2 ran)))
    · exact row.trans (congrArg Host.Outcome.next (if_neg (mt due.1 stays)))

end

/-! ## CLEAR-TRIP -/

section
variable {s : State} {n : SourceId}

theorem State.clearTrip_of_latched (h : (s.source n).state = .latched) :
    s.clearTrip n = (s.setSource n (s.source n).cleared).afterClear n := if_pos h

theorem State.clearTrip_of_not_latched (h : (s.source n).state ≠ .latched) : s.clearTrip n = s := if_neg h

/-- The pin is read through the source's polarity alone. -/
theorem State.pinAsserted_setSource_of_activeHigh {v : Source} (h : v.activeHigh = (s.source n).activeHigh) :
    (s.setSource n v).pinAsserted n = s.pinAsserted n := by
  unfold State.pinAsserted
  rw [State.source_setSource_self]
  split
  · rfl
  · simp only [Source.assertedBy, h]
    rfl

theorem State.tripPin_setSource (s : State) (n : SourceId) (v : Source) : (s.setSource n v).tripPin n =
    (s.setSource n { v with state := .tripped, trippedSince := s.now, heldLong := false }).tripWork n := by
  rw [State.tripPin, State.source_setSource_self, State.setSource_setSource]
  rfl

theorem State.qualify_setSource (s : State) (n : SourceId) (v : Source) : (s.setSource n v).qualify n =
    s.setSource n { v with state := .qualifying, qualStart := s.now } := by
  rw [State.qualify, State.source_setSource_self, State.setSource_setSource]
  rfl

/-- A source written before a trip that no command falls into is as written. -/
theorem State.alone_tripPin_setSource (s : State) (n : SourceId) (v : Source) :
    (s.setSource n v).alone (fun t => t.tripPin n) =
      (s.setSource n { v with state := .tripped, trippedSince := s.now, heldLong := false }).alone
        (fun t => t.tripWork n) :=
  congrArg (fun t : State => ({ t with pending := s.pending } : State))
    (State.tripPin_setSource { s with pending := [] } n v)

theorem State.source_alone_tripWork (s : State) (n : SourceId) :
    (s.alone (fun t => t.tripWork n)).source n = s.source n := by
  simp [State.source]

theorem State.source_applyMask (s : State) (mask : BitVec 4) (n : SourceId) :
    (s.applyMask mask).source n = s.source n := by
  simp [State.source]

variable {number : Byte} (hu : u8 [number] 0 = n.val)
include hu

theorem takeClearTrip_tripped (h : (s.source n).state = .tripped) : takeClearTrip [number] s =
    s.refuse .guardActive [number, 2, 2] := by
  have named : BitVec.ofNat 8 n.val = number := by rw [← hu, ofNat_u8]; rfl
  simp [takeClearTrip, unitNumber_val hu, h, sourceReport, out8, named, SourceState.code]

theorem takeClearTrip_of_not_tripped (h : (s.source n).state ≠ .tripped) {t : State} (left : s.clearTrip n = t) :
    takeClearTrip [number] s = { state := t, result := .ok, fields :=
      [number, BitVec.ofNat 8 (s.source n).state.code, BitVec.ofNat 8 (t.source n).state.code] } := by
  have named : BitVec.ofNat 8 n.val = number := by rw [← hu, ofNat_u8]; rfl
  simp [takeClearTrip, unitNumber_val hu, h, sourceReport, out8, named, left]

end

/-- Settles O53: the clear by the state found, and what follows it by the pin. -/
theorem clearTripReleasesLatchedSource : Obligations.ClearTripReleasesLatchedSource := by
  unfold Obligations.ClearTripReleasesLatchedSource
  intro s tag n h ht v number answer cleared sees
  have hu : u8 [number] 0 = n.val := u8_ofNat (by omega) []
  have reply {t : State} (untripped : v.state ≠ .tripped) (left : s.seeHigh.clearTrip n = t) :
      answer t 0 (BitVec.ofNat 8 v.state.code) (BitVec.ofNat 8 (t.source n).state.code) :=
    exec_row_reply h .clearTrip ht (p := [number]) rfl (takeClearTrip_of_not_tripped (s := s.seeHigh) hu untripped left)
  have same (untripped : v.state ≠ .tripped) (unlatched : v.state ≠ .latched) :
      answer s.seeHigh 0 (BitVec.ofNat 8 v.state.code) (BitVec.ofNat 8 v.state.code) :=
    reply untripped (State.clearTrip_of_not_latched unlatched)
  have latchedReply {t : State} {left : SourceState} (latched : v.state = .latched)
      (follows : (s.seeHigh.setSource n cleared).afterClear n = t) (source : (t.source n).state = left) :
      answer t 0 3 (BitVec.ofNat 8 left.code) := by
    have found := reply (by simp [latched]) ((State.clearTrip_of_latched (s := s.seeHigh) latched).trans follows)
    rwa [latched, source] at found
  have asserted : (s.seeHigh.setSource n cleared).pinAsserted n = s.pinAsserted n :=
    State.pinAsserted_setSource_of_activeHigh rfl
  have written : (s.seeHigh.setSource n cleared).source n = cleared := State.source_setSource_self _ n cleared
  refine ⟨fun tripped => ?_, fun inactive => ?_, fun qualifying => ?_, fun latched unseen => ?_,
    fun latched seen qualified => ?_, fun latched seen unqualified => ?_⟩
  · exact exec_row_refused h .clearTrip ht (p := [number]) rfl (takeClearTrip_tripped (s := s.seeHigh) hu tripped)
  · have kept := same (by simp [inactive]) (by simp [inactive])
    rwa [inactive] at kept
  · have kept := same (by simp [qualifying]) (by simp [qualifying])
    rwa [qualifying] at kept
  · refine latchedReply (left := .inactive) latched ?_ ?_
    · rw [State.afterClear, written, asserted, if_neg unseen]
    · rw [State.source_applyMask, written]
  · refine latchedReply (left := .qualifying) latched ?_ ?_
    · rw [State.afterClear, written, asserted, if_pos seen, if_neg qualified, State.qualify_setSource]
      rfl
    · rw [State.source_applyMask, State.source_setSource_self]
  · refine latchedReply (left := .tripped) latched ?_ ?_
    · rw [State.afterClear, written, asserted, if_pos seen, if_pos unqualified, State.alone_tripPin_setSource]
      rfl
    · rw [State.source_alone_tripWork, State.source_setSource_self]

end Sys2Proof.Machine
end

section
/-! SET-GUARD (R126 to R129, R178). -/

namespace Sys2Proof.Machine

/-! ## The payload -/

/-- The value check of SET-GUARD; polarity and qualification of an internal source are not read. -/
def guardFieldsFit (isPin : Bool) (p : List Byte) : Prop :=
  u8 p 1 < 16 ∧ (isPin = true → u8 p 2 ≤ 15) ∧ u8 p 3 ≤ 3 ∧ 1 ≤ u16 p 4 ∧ u16 p 4 ≤ 1000 ∧ u8 p 6 < 16

/-- The configuration in a SET-GUARD that passes its check. -/
def guardFields (isPin : Bool) (action : Action) (p : List Byte) : GuardWrite :=
  { enabled := (u8 p 1).testBit 0
    activeHigh := isPin && (u8 p 1).testBit 1
    qualification := if isPin then u8 p 2 else 0
    action := action
    capValue := u16 p 4
    mask := BitVec.ofNat 4 (u8 p 6)
    epochOption := (u8 p 1).testBit 2
    anchorOption := (u8 p 1).testBit 3 }

theorem Action.ofCode_code (a : Action) : Action.ofCode a.code = some a := by cases a <;> rfl

theorem Action.ofCode_of_gt {n : Nat} (h : ¬ n ≤ 3) : Action.ofCode n = none := by
  unfold Action.ofCode
  split
  iterate 4 omega
  rfl

section
variable {isPin : Bool} {p : List Byte}

/-- The value check past the flags and the mask, one field after another. -/
theorem GuardWrite.ofPayload_of_inside (inside : ¬ (16 ≤ u8 p 1 ∨ 16 ≤ u8 p 6)) : GuardWrite.ofPayload isPin p =
    (if isPin = true then inRange 0 15 (u8 p 2) else some 0).bind fun qualification =>
      (Action.ofCode (u8 p 3)).bind fun action => (inRange 1 1000 (u16 p 4)).bind fun capValue =>
        some { guardFields isPin action p with qualification, capValue } := by
  rw [GuardWrite.ofPayload, if_neg inside]
  cases isPin with
  | true => rfl
  | false => rfl

theorem qualification_of_fit (h : isPin = true → u8 p 2 ≤ 15) :
    (if isPin = true then inRange 0 15 (u8 p 2) else some 0) = some (if isPin = true then u8 p 2 else 0) := by
  cases isPin with
  | true => exact inRange_of_mem ⟨Nat.zero_le _, h rfl⟩
  | false => rfl

theorem GuardWrite.ofPayload_of_fit {action : Action} (h : guardFieldsFit isPin p) (named : u8 p 3 = action.code) :
    GuardWrite.ofPayload isPin p = some (guardFields isPin action p) := by
  obtain ⟨flags, qualification, -, low, high, mask⟩ := h
  have inside : ¬ (16 ≤ u8 p 1 ∨ 16 ≤ u8 p 6) := by omega
  rw [GuardWrite.ofPayload_of_inside inside, qualification_of_fit qualification, named, Action.ofCode_code,
    inRange_of_mem ⟨low, high⟩]
  rfl

theorem GuardWrite.fit_of_ofPayload {w : GuardWrite} (h : GuardWrite.ofPayload isPin p = some w) :
    guardFieldsFit isPin p := by
  have inside : ¬ (16 ≤ u8 p 1 ∨ 16 ≤ u8 p 6) := by
    intro out
    rw [GuardWrite.ofPayload, if_pos out] at h
    cases h
  rw [GuardWrite.ofPayload_of_inside inside] at h
  simp only [Option.bind_eq_some_iff, inRange_eq_some] at h
  obtain ⟨_, qualification, a, action, _, ⟨-, low, high⟩, -⟩ := h
  have known : u8 p 3 ≤ 3 := by
    by_contra unknown
    rw [Action.ofCode_of_gt unknown] at action
    cases action
  refine ⟨by omega, fun pin => ?_, known, low, high, by omega⟩
  rw [if_pos pin, inRange_eq_some] at qualification
  exact qualification.2.2

theorem GuardWrite.ofPayload_of_unfit (h : ¬ guardFieldsFit isPin p) : GuardWrite.ofPayload isPin p = none :=
  Option.eq_none_iff_forall_ne_some.2 (fun _ hw => h (GuardWrite.fit_of_ofPayload hw))

end

/-! ## The reply -/

theorem flagByte_of_small : ∀ (n : Fin 16) (isPin : Bool),
    BitVec.ofNat 8 (bitOf (n.val.testBit 0) 0 + bitOf (isPin && n.val.testBit 1) 1 + bitOf (n.val.testBit 2) 2 +
      bitOf (n.val.testBit 3) 3) = if isPin then BitVec.ofNat 8 n.val else BitVec.ofNat 8 n.val &&& 0xFD := by
  decide

theorem guardFields_report {isPin : Bool} {p : List Byte} {action : Action} (h : guardFieldsFit isPin p)
    (named : u8 p 3 = action.code) : (guardFields isPin action p).report =
      [if isPin then byteAt p 1 else byteAt p 1 &&& 0xFD, BitVec.ofNat 8 (if isPin then u8 p 2 else 0),
        byteAt p 3, byteAt p 4, byteAt p 5, byteAt p 6] := by
  obtain ⟨flags, -, -, -, -, mask⟩ := h
  have flagByte := flagByte_of_small ⟨u8 p 1, flags⟩ isPin
  have maskByte : (BitVec.ofNat 4 (u8 p 6)).toNat = u8 p 6 := by rw [BitVec.toNat_ofNat, Nat.mod_eq_of_lt mask]
  simp only [ofNat_u8] at flagByte
  simp only [GuardWrite.report, GuardWrite.flagByte, guardFields, out8, flagByte, maskByte, ← named, out16_u16, ofNat_u8,
    List.cons_append, List.nil_append]

/-! ## The write -/

theorem isSome_pinOf (n : SourceId) : (pinOf n).isSome = decide (n.val < 8) := by
  by_cases h : n.val < 8
  · simp [pinOf, h]
  · simp [pinOf, h]

theorem SourceState.acting_iff (st : SourceState) : st.acting = true ↔ st = .tripped ∨ st = .latched := by
  cases st <;> simp [SourceState.acting]

theorem SourceState.acting_eq_false_iff (st : SourceState) : st.acting = false ↔ st = .inactive ∨ st = .qualifying := by
  cases st <;> simp [SourceState.acting]

section
variable {s : State} {n : SourceId} {v : Source}

theorem State.seePin_of_unseen (h : ¬ (v.enabled = true ∧ (s.setSource n v).pinAsserted n = true)) :
    (s.setSource n v).seePin n = s.setSource n v := by
  rw [State.seePin, State.source_setSource_self, if_neg h]

theorem State.seePin_of_unqualified (h : v.enabled = true ∧ (s.setSource n v).pinAsserted n = true)
    (unqualified : v.qualification = 0) : (s.setSource n v).seePin n =
      (s.setSource n { v with state := .tripped, trippedSince := s.now, heldLong := false }).alone
        (fun t => t.tripWork n) := by
  have trips : ({ s.setSource n v with pending := [] } : State).seeAsserted n =
      ({ s.setSource n v with pending := [] } : State).tripPin n :=
    State.seeAsserted_of_unqualified ((congrArg Source.qualification (s.source_setSource_self n v)).trans unqualified)
  rw [← State.alone_tripPin_setSource, State.seePin, State.source_setSource_self, if_pos h, State.alone, trips]
  rfl

theorem State.seePin_of_qualified (h : v.enabled = true ∧ (s.setSource n v).pinAsserted n = true)
    (qualified : v.qualification ≠ 0) : (s.setSource n v).seePin n =
      s.setSource n { v with state := .qualifying, qualStart := s.now } := by
  have qualifies : ({ s.setSource n v with pending := [] } : State).seeAsserted n =
      ({ s.setSource n v with pending := [] } : State).qualify n :=
    State.seeAsserted_of_qualified (fun zero =>
      qualified ((congrArg Source.qualification (s.source_setSource_self n v)).symm.trans zero))
  rw [State.seePin, State.source_setSource_self, if_pos h, State.alone, qualifies, ← State.qualify_setSource]
  rfl

variable {p : List Byte} (hu : u8 p 0 = n.val)
include hu

theorem sourceReport_byteAt (st : SourceState) : sourceReport n st = [byteAt p 0, BitVec.ofNat 8 st.code] := by
  rw [← ofNat_u8 p 0, hu]
  rfl

theorem takeSetGuard_busy (h : (s.source n).state.acting = true) :
    takeSetGuard p s = s.refuse .busy (sourceReport n (s.source n).state) := by
  simp [takeSetGuard, unitNumber_val hu, h]

theorem takeSetGuard_badArg (h : (s.source n).state.acting = false)
    (bad : GuardWrite.ofPayload (pinOf n).isSome p = none) :
    takeSetGuard p s = s.refuse .badArg (sourceReport n (s.source n).state) := by
  simp [takeSetGuard, unitNumber_val hu, h, bad]

theorem takeSetGuard_accepted (h : (s.source n).state.acting = false) {w : GuardWrite}
    (good : GuardWrite.ofPayload (pinOf n).isSome p = some w) {t : State} (left : s.writeGuard n w = t) :
    takeSetGuard p s = { state := t, result := .ok, fields := sourceReport n (t.source n).state ++ w.report } := by
  simp [takeSetGuard, unitNumber_val hu, h, good, left]

end

/-- Settles O52: the state found, the value check, and the pin as the new configuration sees it. -/
theorem setGuardConfiguresSource : Obligations.SetGuardConfiguresSource := by
  unfold Obligations.SetGuardConfiguresSource
  intro s tag p n h ht hp hu v flag isPin good refused
  have pin : (pinOf n).isSome = isPin := isSome_pinOf n
  refine ⟨fun busy => ?_, fun idle bad => ?_, ?_⟩
  · have taken := takeSetGuard_busy (s := s.seeHigh) hu ((SourceState.acting_iff v.state).2 busy)
    rw [sourceReport_byteAt hu] at taken
    exact exec_row_refused h .setGuard ht hp taken
  · have taken := takeSetGuard_badArg (s := s.seeHigh) hu ((SourceState.acting_eq_false_iff v.state).2 idle)
      (by rw [pin]; exact GuardWrite.ofPayload_of_unfit bad)
    rw [sourceReport_byteAt hu] at taken
    exact exec_row_refused h .setGuard ht hp taken
  · intro action idle fits named w asserted u
    have seen : asserted = true ↔ w.enabled = true ∧ (s.seeHigh.setSource n w).pinAsserted n = true :=
      Bool.and_eq_true_iff
    have left : s.seeHigh.writeGuard n (guardFields isPin action p) = u := by
      have configured : s.seeHigh.writeGuard n (guardFields isPin action p) = (s.seeHigh.setSource n w).seePin n := rfl
      rw [configured]
      by_cases quiet : asserted = false
      · have unseen := mt seen.2 (by rw [quiet]; decide)
        exact (State.seePin_of_unseen unseen).trans (if_pos quiet).symm
      · have sees := seen.1 (Bool.eq_true_of_not_eq_false quiet)
        by_cases unqualified : w.qualification = 0
        · exact (State.seePin_of_unqualified sees unqualified).trans ((if_neg quiet).trans (if_pos unqualified)).symm
        · exact (State.seePin_of_qualified sees unqualified).trans ((if_neg quiet).trans (if_neg unqualified)).symm
    have taken := takeSetGuard_accepted (s := s.seeHigh) hu ((SourceState.acting_eq_false_iff v.state).2 idle)
      (by rw [pin]; exact GuardWrite.ofPayload_of_fit fits named) left
    rw [sourceReport_byteAt hu, guardFields_report fits named] at taken
    exact exec_row_reply h .setGuard ht hp taken

end Sys2Proof.Machine
end

section
/-! A trip's work (R94, R102, R112, R133, R136, R140). -/

namespace Sys2Proof.Machine

/-! ## The options of a trip -/

theorem State.tripOptions_eq (s : State) (epochOption anchorOption : Bool) : s.tripOptions epochOption anchorOption =
    if anchorOption = true then
      ({ s with epoch := if epochOption then s.epoch + 1 else s.epoch } : State).fire guardAnchor
    else { s with epoch := if epochOption then s.epoch + 1 else s.epoch } := by
  cases epochOption with
  | true => rfl
  | false => rfl

theorem State.tripWork_eq (s : State) (n : SourceId) {left : BitVec 8} {applied : State}
    (hleft : (if (s.source n).epochOption then s.epoch + 1 else s.epoch) = left)
    (happlied : (s.post .guardTrip n.val (left ++ BitVec.ofNat 8 (s.source n).action.code)).applyMask (s.source n).mask =
      applied) : s.tripWork n =
      if (s.source n).anchorOption = true then ({ applied with epoch := left } : State).fire guardAnchor
      else { applied with epoch := left } := by
  have epoch : applied.epoch = s.epoch := by rw [← happlied]; simp
  rw [State.tripWork, tripDetail, hleft, happlied, State.tripOptions_eq, epoch, hleft]

/-! ## The layers of a mask handed on -/

theorem State.applyMask_eq_drive (s : State) (mask : BitVec 4) :
    s.applyMask mask = { s with chans := (s.applyMask mask).chans, counters := (s.applyMask mask).counters } := by
  have frame := State.applyMask_frame s mask
  generalize s.applyMask mask = u at frame ⊢
  cases u
  simp_all

section
variable {s : State} {c : ChanId}

/-- A channel that its layer does not halt: HALT is left for IDLE. -/
def Channel.freed (v : Channel) : Channel := { v with state := if v.state = .halt then .idle else v.state }

theorem Channel.freed_of_running {v : Channel} (h : v.state ≠ .halt) : v.freed = v := by
  simp [Channel.freed, h]

theorem State.applyLayer_of_off (off : (s.chan c).state = .off) : s.applyLayer c = s := by
  rw [State.applyLayer_eq, if_pos off]

theorem State.applyLayer_of_halted (halts : (s.layer c).halts = true) (halted : (s.chan c).state = .halt) :
    s.applyLayer c = s.recompute c := by
  rw [State.applyLayer_eq, if_neg (by simp [halted]), if_pos halted, if_pos halts]

theorem State.applyLayer_of_free (free : ¬ (s.layer c).halts = true) (on : (s.chan c).state ≠ .off) :
    s.applyLayer c = (s.setChan c (s.chan c).freed).recompute c := by
  rw [State.applyLayer_eq, if_neg on]
  by_cases halted : (s.chan c).state = .halt
  · rw [if_pos halted, if_neg free, Channel.freed, if_pos halted]
  · rw [if_neg halted, if_neg free, Channel.freed_of_running halted, State.setChan_chan]

/-- Each handing of a layer to an enabled channel ends in a recompute. -/
theorem State.freshMagnitude_applyLayer (on : (s.chan c).state ≠ .off) : (s.applyLayer c).freshMagnitude c := by
  by_cases halts : (s.layer c).halts = true
  · by_cases halted : (s.chan c).state = .halt
    · rw [State.applyLayer_of_halted halts halted]
      exact State.freshMagnitude_recompute _ c
    · rw [State.applyLayer_of_halts s c halts on halted]
      exact State.freshMagnitude_recompute _ c
  · rw [State.applyLayer_of_free halts on]
    exact State.freshMagnitude_recompute _ c

/-- Entry into HALT (R94): nothing is driven, and the unit is at rest. -/
theorem State.chan_applyLayer_of_halts (halts : (s.layer c).halts = true) (on : (s.chan c).state ≠ .off)
    (running : (s.chan c).state ≠ .halt) : (s.applyLayer c).chan c =
      { s.chan c with state := .halt, target := 0, ramped := 0, mag := 0, nextOn := 0, activeOn := 0 } := by
  rw [State.applyLayer_of_halts s c halts on running, State.enterHalt, State.chan_recompute_self, State.chan_setChan_self,
    State.formed_setChan, State.formed, Channel.recomputed_of_ramped_zero _ _ _ rfl]

theorem State.counter_applyLayer_of_halts (halts : (s.layer c).halts = true) (on : (s.chan c).state ≠ .off)
    (running : (s.chan c).state ≠ .halt) {k : UnitId} (own : unitOf c = some k) :
    (s.applyLayer c).counter k = (s.counter k).atRest := by
  rw [State.applyLayer_of_halts s c halts on running, State.enterHalt,
    State.counter_recompute_of_ramped_zero (by rw [State.chan_setChan_self]), if_pos own]
  rfl

theorem Layer.capOf_of_halts {l : Layer} (h : l.halts = true) : l.capOf = none := by
  cases l with
  | cap gc => exact absurd h (by simp [Layer.halts])
  | _ => rfl

theorem State.chan_applyLayer_of_halted (halts : (s.layer c).halts = true) (halted : (s.chan c).state = .halt) :
    (s.applyLayer c).chan c = (s.chan c).recomputed (s.effMax c) none := by
  rw [State.applyLayer_of_halted halts halted, State.chan_recompute_self, State.formed, Layer.capOf_of_halts halts]
  rfl

theorem State.chan_applyLayer_of_free (free : ¬ (s.layer c).halts = true) (on : (s.chan c).state ≠ .off) :
    (s.applyLayer c).chan c = (s.chan c).freed.recomputed (s.effMax c) (s.layer c).capOf := by
  rw [State.applyLayer_of_free free on, State.chan_recompute_self, State.chan_setChan_self]
  rfl

/-- Without an entry into HALT the unit is handed the magnitude before and after. -/
theorem State.counter_applyLayer_of_handed (on : (s.chan c).state ≠ .off)
    (kept : (s.layer c).halts = true → (s.chan c).state = .halt) {k : UnitId} (own : unitOf c = some k) :
    (s.applyLayer c).counter k = (s.counter k).handed (s.chan c).mag ((s.applyLayer c).chan c).mag s.now := by
  by_cases halts : (s.layer c).halts = true
  · rw [State.applyLayer_of_halted halts (kept halts), State.counter_recompute, if_pos own, State.chan_recompute_self]
  · rw [State.applyLayer_of_free halts on, State.counter_recompute, if_pos own, State.chan_recompute_self,
      State.chan_setChan_self]
    rfl

end

/-- Settles O55: the order of the trip; at each channel of the mask, its layer and the state it finds. -/
theorem tripsActInOrder : Obligations.TripsActInOrder := by
  unfold Obligations.TripsActInOrder
  refine ⟨fun s n => State.tripWork_eq s n rfl rfl, ?_⟩
  intro s mask u
  have untouched (c : ChanId) (h : mask.getLsbD c.val = false ∨ (s.chan c).state = .off) : s.AgreesAt c u := by
    have agrees : (if mask.getLsbD c.val then s.applyLayer c else s).AgreesAt c u := s.applyMask_agrees mask c
    rcases h with outside | off
    · rwa [if_neg (by rw [outside]; decide)] at agrees
    · rwa [State.applyLayer_of_off off, ite_self] at agrees
  refine ⟨s.applyMask_eq_drive mask, fun k h => (untouched _ h).counter k rfl, ?_⟩
  intro c freed
  refine ⟨fun h => (untouched c h).chan, fun inside on => ?_⟩
  have agrees : (s.applyLayer c).AgreesAt c u := by
    have agrees : (if mask.getLsbD c.val then s.applyLayer c else s).AgreesAt c u := s.applyMask_agrees mask c
    rwa [if_pos inside] at agrees
  have fresh : u.freshMagnitude c := agrees.freshMagnitude (State.freshMagnitude_applyLayer on)
  have counter {k : UnitId} (own : unitOf c = some k) : u.counter k = (s.applyLayer c).counter k :=
    agrees.counter k (unitOf_eq_some_iff.1 own)
  have handed (kept : (s.layer c).halts = true → (s.chan c).state = .halt) (k : UnitId) (own : unitOf c = some k) :
      u.counter k = (s.counter k).handed (s.chan c).mag (u.chan c).mag s.now := by
    rw [counter own, agrees.chan, State.counter_applyLayer_of_handed on kept own]
  rw [← Layer.halts_iff]
  refine ⟨fun halts => ⟨?_, fresh, fun running => ⟨?_, fun k own => ?_⟩, fun halted => ⟨?_, ?_⟩⟩, fun free => ?_⟩
  · by_cases halted : (s.chan c).state = .halt
    · rw [agrees.chan, State.chan_applyLayer_of_halted halts halted]
      exact halted
    · rw [agrees.chan, State.chan_applyLayer_of_halts halts on halted]
  · rw [agrees.chan, State.chan_applyLayer_of_halts halts on running]
  · rw [counter own, State.counter_applyLayer_of_halts halts on running own]
  · rw [agrees.chan, State.chan_applyLayer_of_halted halts halted]
  · exact handed (fun _ => halted)
  · have chan : u.chan c = freed.recomputed (s.effMax c) (s.layer c).capOf :=
      agrees.chan.trans (State.chan_applyLayer_of_free free on)
    refine ⟨fresh, ?_, chan, handed (fun halts => absurd halts free)⟩
    rw [chan]
    rfl

end Sys2Proof.Machine
end
